-- ==== Sys2Proof/Word.lean ====
section
/-! DEFINITION. The word types of RACCOON-CANRX and the two bus levels. Every register is one 32-bit word (R61, R63);
time stamps are 64-bit sample indices (R10 `TIME_W`, R15); a level is Dominant or Recessive (R13). -/

namespace Sys2Proof

/-- A 32-bit register or bus data word (R61). -/
abbrev Word := BitVec 32

/-- A byte lane of a word (R61). -/
abbrev Byte := BitVec 8

/-- A 64-bit sample index: TIME and every record time (R10, R15, R36). -/
abbrev Time := BitVec 64

/-- A bus level (R13, R16). Its bit value stands in `Level.bit` (Machine/Operands.lean). -/
inductive Level where
  | dominant
  | recessive
deriving DecidableEq, Repr

end Sys2Proof
end

