-- ==== Sys2Proof/Config.lean ====
section
/-! DEFINITION. What one implementation fixes (R10): the two OPEN parameters as a record the state carries unchanged
(notes/assumptions/3.md), and the parameters the spec gives a value. -/

namespace Sys2Proof.Config

/-- The parameters R10 marks OPEN (D26, D41, I3, I4). Nothing the machine does changes them: a claim over all states
holds for every value of them. -/
structure Params where
  /-- `EVQ_DEPTH`: capacity of the event queue in records (R10, R37). -/
  evqDepth : Nat
  /-- `BASE`: physical base address of the 256-byte register window (R10, R60). -/
  base : Nat
deriving DecidableEq, Repr

/-- R10: `EVQ_DEPTH` is an integer ≥ 4; `BASE` is any address. -/
def Params.wf (p : Params) : Bool := decide (4 ≤ p.evqDepth)

/-- R10's reference depth 64. The base address 0 is the model's (DESIGN CHOICE, notes/assumptions/3.md): no statement
rests on either value. -/
def reference : Params := { evqDepth := 64, base := 0 }

/-- R10, R210: the CRC polynomial without its x^15 term (90_conflicts.md C1: 0x4599, not 0x1D5). -/
def poly : BitVec 15 := 0x4599#15

/-- R10 `STUFF_RUN`: run length after which a stuff bit is due. -/
def stuffRun : BitVec 3 := 5#3

/-- R10 `CRC_FIELD_LEN`: length of the received CRC field. -/
def crcFieldLen : BitVec 4 := 15#4

/-- R60: the register window is 256 bytes. -/
def windowSize : Nat := 256

end Sys2Proof.Config
end

