-- ==== Sys2Proof/Syntax.lean ====
section
/-! DEFINITION. The instruction set: one constructor per row of spec/opcode_table.json. The block's instructions are
its register operations and its commands (R2, R80, R82): `rdX` is `rd X`, `wrX v` is `wr X, v` with the 32-bit write
data `v`, `cmdX` is the command `X`. A reserved row carries the byte offset it is accessed at; CRC_FEED carries its
NM1 field (N = NM1 + 1, R99); a reserved CMD word is kept whole. -/

namespace Sys2Proof

/-- The operations of the block (R83, R100). -/
inductive Instr where
  /-- `rd_ID`, R240. -/
  | rdId
  /-- `wr_ID`, R241. -/
  | wrId (v : Word)
  /-- `rd_CTRL`, R243. -/
  | rdCtrl
  /-- `wr_CTRL`, R244. -/
  | wrCtrl (v : Word)
  /-- `rd_STATUS`, R245. -/
  | rdStatus
  /-- `wr_STATUS`, R246. -/
  | wrStatus (v : Word)
  /-- `rd_HTHR`, R242. -/
  | rdHthr
  /-- `wr_HTHR`, R247. -/
  | wrHthr (v : Word)
  /-- `rd_LTHR`, R242. -/
  | rdLthr
  /-- `wr_LTHR`, R247. -/
  | wrLthr (v : Word)
  /-- `rd_NBP`, R242. -/
  | rdNbp
  /-- `wr_NBP`, R247. -/
  | wrNbp (v : Word)
  /-- `rd_SPO`, R242. -/
  | rdSpo
  /-- `wr_SPO`, R247. -/
  | wrSpo (v : Word)
  /-- `rd_SJW`, R242. -/
  | rdSjw
  /-- `wr_SJW`, R247. -/
  | wrSjw (v : Word)
  /-- `rd_MGW`, R242. -/
  | rdMgw
  /-- `wr_MGW`, R247. -/
  | wrMgw (v : Word)
  /-- `rd_CRC`, R242. -/
  | rdCrc
  /-- `wr_CRC`, R241. -/
  | wrCrc (v : Word)
  /-- `rd_RXCRC`, R242. -/
  | rdRxcrc
  /-- `wr_RXCRC`, R241. -/
  | wrRxcrc (v : Word)
  /-- `rd_CRCDIN`, R242. -/
  | rdCrcdin
  /-- `wr_CRCDIN`, R248. -/
  | wrCrcdin (v : Word)
  /-- `rd_CMD`, R249. -/
  | rdCmd
  /-- `wr_CMD`, R250. -/
  | wrCmd (v : Word)
  /-- `rd_EVT_HEAD`, R263. -/
  | rdEvtHead
  /-- `wr_EVT_HEAD`, R241. -/
  | wrEvtHead (v : Word)
  /-- `rd_EVT_AUX`, R263. -/
  | rdEvtAux
  /-- `wr_EVT_AUX`, R241. -/
  | wrEvtAux (v : Word)
  /-- `rd_EVT_TLO`, R263. -/
  | rdEvtTlo
  /-- `wr_EVT_TLO`, R241. -/
  | wrEvtTlo (v : Word)
  /-- `rd_EVT_THI`, R263. -/
  | rdEvtThi
  /-- `wr_EVT_THI`, R241. -/
  | wrEvtThi (v : Word)
  /-- `rd_EVT_CNT`, R264. -/
  | rdEvtCnt
  /-- `wr_EVT_CNT`, R241. -/
  | wrEvtCnt (v : Word)
  /-- `rd_TIME_LO`, R265. -/
  | rdTimeLo
  /-- `wr_TIME_LO`, R241. -/
  | wrTimeLo (v : Word)
  /-- `rd_TIME_HI`, R265. -/
  | rdTimeHi
  /-- `wr_TIME_HI`, R241. -/
  | wrTimeHi (v : Word)
  /-- `rd_GLITCH_CNT`, R242. -/
  | rdGlitchCnt
  /-- `wr_GLITCH_CNT`, R241. -/
  | wrGlitchCnt (v : Word)
  /-- `rd_IRQEN`, R242. -/
  | rdIrqen
  /-- `wr_IRQEN`, R266. -/
  | wrIrqen (v : Word)
  /-- `rd_SAMPLE`, R249. -/
  | rdSample
  /-- `wr_SAMPLE`, R268. -/
  | wrSample (v : Word)
  /-- `rd_CRSTATE`, R267. -/
  | rdCrstate
  /-- `wr_CRSTATE`, R241. -/
  | wrCrstate (v : Word)
  /-- `rd_DSSTATE`, R267. -/
  | rdDsstate
  /-- `wr_DSSTATE`, R241. -/
  | wrDsstate (v : Word)
  /-- `rd_IDLECNT`, R267. -/
  | rdIdlecnt
  /-- `wr_IDLECNT`, R241. -/
  | wrIdlecnt (v : Word)
  /-- `rd_reserved_0x68-0x6C`, R269. -/
  | rdReserved68 (off : BitVec 8)
  /-- `rd_reserved_0x70-0x7C`, R269. -/
  | rdReserved70 (off : BitVec 8)
  /-- `rd_reserved_0x80-0xFC`, R269. -/
  | rdReserved80 (off : BitVec 8)
  /-- `wr_reserved_0x68-0x6C`, R269. -/
  | wrReserved68 (off : BitVec 8) (v : Word)
  /-- `wr_reserved_0x70-0x7C`, R269. -/
  | wrReserved70 (off : BitVec 8) (v : Word)
  /-- `wr_reserved_0x80-0xFC`, R269. -/
  | wrReserved80 (off : BitVec 8) (v : Word)
  /-- `cmd_NOP`, R251. -/
  | cmdNop
  /-- `cmd_POP`, R252. -/
  | cmdPop
  /-- `cmd_FLUSH`, R253. -/
  | cmdFlush
  /-- `cmd_CRC_CLEAR`, R254. -/
  | cmdCrcClear
  /-- `cmd_CRC_FEED`, R255. -/
  | cmdCrcFeed (nm1 : BitVec 5)
  /-- `cmd_CRC_STOP`, R256. -/
  | cmdCrcStop
  /-- `cmd_RELEASE`, R257. -/
  | cmdRelease
  /-- `cmd_GLITCH_CLR`, R258. -/
  | cmdGlitchClr
  /-- `cmd_RESET`, R259. -/
  | cmdReset
  /-- `cmd_reserved`, R262. -/
  | cmdReserved (v : Word)
deriving DecidableEq, Repr

end Sys2Proof
end

