-- ==== Sys2Proof/WellFormed.lean ====
section
/-! DEFINITION. Well-formed instructions: the operands an encoding admits. A reserved-offset row holds only offsets of
its own range, and only word-aligned ones (R62, R83); `cmdReserved` holds only CMD words no other command has (R99,
R100). Every other operand is admitted at every value. -/

namespace Sys2Proof

/-- R99, R100: a CMD word that one of the commands 0x00 to 0x08 is encoded by: an opcode up to 0x08 with every other
bit 0, or CRC_FEED with NM1 in [12:8]. -/
def cmdWordDefined (v : Word) : Bool :=
  decide (v.toNat ≤ 8) || (v &&& 0xFFFFE0FF#32) == 0x00000004#32

/-- R83: a reserved offset of the range `lo` to `hi`, word-aligned. -/
def reservedOffset (lo hi : Nat) (off : BitVec 8) : Bool :=
  decide (lo ≤ off.toNat) && decide (off.toNat ≤ hi) && decide (off.toNat % 4 = 0)

/-- The operands of the instruction are ones its encoding can carry. -/
def Instr.wf : Instr → Bool
  | .rdId => true
  | .wrId _ => true
  | .rdCtrl => true
  | .wrCtrl _ => true
  | .rdStatus => true
  | .wrStatus _ => true
  | .rdHthr => true
  | .wrHthr _ => true
  | .rdLthr => true
  | .wrLthr _ => true
  | .rdNbp => true
  | .wrNbp _ => true
  | .rdSpo => true
  | .wrSpo _ => true
  | .rdSjw => true
  | .wrSjw _ => true
  | .rdMgw => true
  | .wrMgw _ => true
  | .rdCrc => true
  | .wrCrc _ => true
  | .rdRxcrc => true
  | .wrRxcrc _ => true
  | .rdCrcdin => true
  | .wrCrcdin _ => true
  | .rdCmd => true
  | .wrCmd _ => true
  | .rdEvtHead => true
  | .wrEvtHead _ => true
  | .rdEvtAux => true
  | .wrEvtAux _ => true
  | .rdEvtTlo => true
  | .wrEvtTlo _ => true
  | .rdEvtThi => true
  | .wrEvtThi _ => true
  | .rdEvtCnt => true
  | .wrEvtCnt _ => true
  | .rdTimeLo => true
  | .wrTimeLo _ => true
  | .rdTimeHi => true
  | .wrTimeHi _ => true
  | .rdGlitchCnt => true
  | .wrGlitchCnt _ => true
  | .rdIrqen => true
  | .wrIrqen _ => true
  | .rdSample => true
  | .wrSample _ => true
  | .rdCrstate => true
  | .wrCrstate _ => true
  | .rdDsstate => true
  | .wrDsstate _ => true
  | .rdIdlecnt => true
  | .wrIdlecnt _ => true
  | .rdReserved68 off => reservedOffset 0x68 0x6C off
  | .rdReserved70 off => reservedOffset 0x70 0x7C off
  | .rdReserved80 off => reservedOffset 0x80 0xFC off
  | .wrReserved68 off _ => reservedOffset 0x68 0x6C off
  | .wrReserved70 off _ => reservedOffset 0x70 0x7C off
  | .wrReserved80 off _ => reservedOffset 0x80 0xFC off
  | .cmdNop => true
  | .cmdPop => true
  | .cmdFlush => true
  | .cmdCrcClear => true
  | .cmdCrcFeed _ => true
  | .cmdCrcStop => true
  | .cmdRelease => true
  | .cmdGlitchClr => true
  | .cmdReset => true
  | .cmdReserved v => !cmdWordDefined v

end Sys2Proof
end

