-- ==== Sys2Proof/Decode.lean ====
section
/-! DEFINITION. Decoding and encoding (R80 to R82, R99 to R101). Level one selects the operation from the MMIO key
`(W, OFF[7:2])`; every key selects exactly one row. Level two applies to the data word of a CMD write. An access that
is not 4 bytes wide at `OFF[1:0] = 0` decodes to no operation and is rejected by name (R62, R80). -/

namespace Sys2Proof

/-- Why an access decodes to no operation (R62, R80). -/
inductive DecodeReject where
  /-- The access is not exactly 4 bytes wide. -/
  | wrongWidth
  /-- The offset has `off[1:0] ≠ 0`. -/
  | misaligned
deriving DecidableEq, Repr

/-- The second decode level: what a CMD word selects (R99, R100). -/
inductive Command where
  | nop
  | pop
  | flush
  | crcClear
  | crcFeed (nm1 : BitVec 5)
  | crcStop
  | release
  | glitchClr
  | reset
  | reserved (v : Word)
deriving DecidableEq, Repr

/-- R80 formats 1 and 2: an MMIO key with its data word, or a CMD word (the data of a write to CMD). -/
inductive Encoded where
  | mmio (key : BitVec 7) (data : Word)
  | cmdWord (w : Word)
deriving DecidableEq, Repr

/-- R80: the MMIO key of a legal access at byte offset `off`. -/
def mmioKey (write : Bool) (off : BitVec 8) : BitVec 7 :=
  BitVec.ofBool write ++ off.extractLsb' 2 6

/-- The byte offset of a word index `OFF[7:2]`. -/
def wordOffset (idx : BitVec 6) : BitVec 8 := idx ++ 0#2

/-- R83, read side: the operation of the word index `OFF[7:2]` when W = 0. -/
def decodeRead (idx : BitVec 6) : Instr :=
  match idx.toNat with
  | 0 => .rdId
  | 1 => .rdCtrl
  | 2 => .rdStatus
  | 3 => .rdHthr
  | 4 => .rdLthr
  | 5 => .rdNbp
  | 6 => .rdSpo
  | 7 => .rdSjw
  | 8 => .rdMgw
  | 9 => .rdCrc
  | 10 => .rdRxcrc
  | 11 => .rdCrcdin
  | 12 => .rdCmd
  | 13 => .rdEvtHead
  | 14 => .rdEvtAux
  | 15 => .rdEvtTlo
  | 16 => .rdEvtThi
  | 17 => .rdEvtCnt
  | 18 => .rdTimeLo
  | 19 => .rdTimeHi
  | 20 => .rdGlitchCnt
  | 21 => .rdIrqen
  | 22 => .rdSample
  | 23 => .rdCrstate
  | 24 => .rdDsstate
  | 25 => .rdIdlecnt
  | 26 | 27 => .rdReserved68 (wordOffset idx)
  | 28 | 29 | 30 | 31 => .rdReserved70 (wordOffset idx)
  | _ => .rdReserved80 (wordOffset idx)

/-- R83, write side: the operation of the word index `OFF[7:2]` when W = 1, with the write data `v`. -/
def decodeWrite (idx : BitVec 6) (v : Word) : Instr :=
  match idx.toNat with
  | 0 => .wrId v
  | 1 => .wrCtrl v
  | 2 => .wrStatus v
  | 3 => .wrHthr v
  | 4 => .wrLthr v
  | 5 => .wrNbp v
  | 6 => .wrSpo v
  | 7 => .wrSjw v
  | 8 => .wrMgw v
  | 9 => .wrCrc v
  | 10 => .wrRxcrc v
  | 11 => .wrCrcdin v
  | 12 => .wrCmd v
  | 13 => .wrEvtHead v
  | 14 => .wrEvtAux v
  | 15 => .wrEvtTlo v
  | 16 => .wrEvtThi v
  | 17 => .wrEvtCnt v
  | 18 => .wrTimeLo v
  | 19 => .wrTimeHi v
  | 20 => .wrGlitchCnt v
  | 21 => .wrIrqen v
  | 22 => .wrSample v
  | 23 => .wrCrstate v
  | 24 => .wrDsstate v
  | 25 => .wrIdlecnt v
  | 26 | 27 => .wrReserved68 (wordOffset idx) v
  | 28 | 29 | 30 | 31 => .wrReserved70 (wordOffset idx) v
  | _ => .wrReserved80 (wordOffset idx) v

/-- Level one (R82): the operation an MMIO key selects. -/
def decodeKey (key : BitVec 7) (data : Word) : Instr :=
  if key.getLsbD 6 then decodeWrite (key.extractLsb' 0 6) data
  else decodeRead (key.extractLsb' 0 6)

/-- A bus access in the window: rejected by name unless it is 4 bytes wide at a word-aligned offset (R62), else the
operation of its key. -/
def decodeAccess (write : Bool) (off : BitVec 8) (size : Nat) (data : Word) : Except DecodeReject Instr :=
  if size ≠ 4 then .error .wrongWidth
  else if off.extractLsb' 0 2 ≠ 0#2 then .error .misaligned
  else .ok (decodeKey (mmioKey write off) data)

/-- Level two (R99, R100, R250): a CMD word with a must-be-zero bit set is reserved; otherwise `OP` selects. -/
def decodeCommand (v : Word) : Command :=
  let op := v.extractLsb' 0 8
  if (op = 0x04#8 ∧ v >>> 13 ≠ 0#32) ∨ (op ≠ 0x04#8 ∧ v >>> 8 ≠ 0#32) then .reserved v
  else
    match op.toNat with
    | 0x00 => .nop
    | 0x01 => .pop
    | 0x02 => .flush
    | 0x03 => .crcClear
    | 0x04 => .crcFeed (v.extractLsb' 8 5)
    | 0x05 => .crcStop
    | 0x06 => .release
    | 0x07 => .glitchClr
    | 0x08 => .reset
    | _ => .reserved v

/-- The instruction of a command. -/
def Command.toInstr : Command → Instr
  | .nop => .cmdNop
  | .pop => .cmdPop
  | .flush => .cmdFlush
  | .crcClear => .cmdCrcClear
  | .crcFeed nm1 => .cmdCrcFeed nm1
  | .crcStop => .cmdCrcStop
  | .release => .cmdRelease
  | .glitchClr => .cmdGlitchClr
  | .reset => .cmdReset
  | .reserved v => .cmdReserved v

/-- The instruction a CMD word stands for. -/
def decodeCmd (v : Word) : Instr := (decodeCommand v).toInstr

/-- The decoder over the two encoded formats. -/
def decode : Encoded → Instr
  | .mmio key data => decodeKey key data
  | .cmdWord w => decodeCmd w

/-- The instruction of a row of spec/opcode_table.json given as a number: a row of one byte is an MMIO key (7 bits; the
eighth is 0) with a data word of zeros, a row of 32 bits is a CMD word. No other row width exists. -/
def decodeTableWord (nbits w : Nat) : Option Instr :=
  if nbits ≤ 8 then
    if w < 128 then some (decodeKey (BitVec.ofNat 7 w) 0#32) else none
  else if nbits = 32 then
    if w < 2 ^ 32 then some (decodeCmd (BitVec.ofNat 32 w)) else none
  else none

/-! The encoder, written from the tables of R83 and R100. A read has no data word; its encoding shows 0. -/

/-- The MMIO key of a reserved offset. -/
def reservedKey (write : Bool) (off : BitVec 8) : BitVec 7 := mmioKey write off

/-- R83, R99, R100: the words of an instruction. -/
def encode : Instr → Encoded
  | .rdId => .mmio 0x00#7 0#32
  | .wrId v => .mmio 0x40#7 v
  | .rdCtrl => .mmio 0x01#7 0#32
  | .wrCtrl v => .mmio 0x41#7 v
  | .rdStatus => .mmio 0x02#7 0#32
  | .wrStatus v => .mmio 0x42#7 v
  | .rdHthr => .mmio 0x03#7 0#32
  | .wrHthr v => .mmio 0x43#7 v
  | .rdLthr => .mmio 0x04#7 0#32
  | .wrLthr v => .mmio 0x44#7 v
  | .rdNbp => .mmio 0x05#7 0#32
  | .wrNbp v => .mmio 0x45#7 v
  | .rdSpo => .mmio 0x06#7 0#32
  | .wrSpo v => .mmio 0x46#7 v
  | .rdSjw => .mmio 0x07#7 0#32
  | .wrSjw v => .mmio 0x47#7 v
  | .rdMgw => .mmio 0x08#7 0#32
  | .wrMgw v => .mmio 0x48#7 v
  | .rdCrc => .mmio 0x09#7 0#32
  | .wrCrc v => .mmio 0x49#7 v
  | .rdRxcrc => .mmio 0x0A#7 0#32
  | .wrRxcrc v => .mmio 0x4A#7 v
  | .rdCrcdin => .mmio 0x0B#7 0#32
  | .wrCrcdin v => .mmio 0x4B#7 v
  | .rdCmd => .mmio 0x0C#7 0#32
  | .wrCmd v => .mmio 0x4C#7 v
  | .rdEvtHead => .mmio 0x0D#7 0#32
  | .wrEvtHead v => .mmio 0x4D#7 v
  | .rdEvtAux => .mmio 0x0E#7 0#32
  | .wrEvtAux v => .mmio 0x4E#7 v
  | .rdEvtTlo => .mmio 0x0F#7 0#32
  | .wrEvtTlo v => .mmio 0x4F#7 v
  | .rdEvtThi => .mmio 0x10#7 0#32
  | .wrEvtThi v => .mmio 0x50#7 v
  | .rdEvtCnt => .mmio 0x11#7 0#32
  | .wrEvtCnt v => .mmio 0x51#7 v
  | .rdTimeLo => .mmio 0x12#7 0#32
  | .wrTimeLo v => .mmio 0x52#7 v
  | .rdTimeHi => .mmio 0x13#7 0#32
  | .wrTimeHi v => .mmio 0x53#7 v
  | .rdGlitchCnt => .mmio 0x14#7 0#32
  | .wrGlitchCnt v => .mmio 0x54#7 v
  | .rdIrqen => .mmio 0x15#7 0#32
  | .wrIrqen v => .mmio 0x55#7 v
  | .rdSample => .mmio 0x16#7 0#32
  | .wrSample v => .mmio 0x56#7 v
  | .rdCrstate => .mmio 0x17#7 0#32
  | .wrCrstate v => .mmio 0x57#7 v
  | .rdDsstate => .mmio 0x18#7 0#32
  | .wrDsstate v => .mmio 0x58#7 v
  | .rdIdlecnt => .mmio 0x19#7 0#32
  | .wrIdlecnt v => .mmio 0x59#7 v
  | .rdReserved68 off => .mmio (reservedKey false off) 0#32
  | .rdReserved70 off => .mmio (reservedKey false off) 0#32
  | .rdReserved80 off => .mmio (reservedKey false off) 0#32
  | .wrReserved68 off v => .mmio (reservedKey true off) v
  | .wrReserved70 off v => .mmio (reservedKey true off) v
  | .wrReserved80 off v => .mmio (reservedKey true off) v
  | .cmdNop => .cmdWord 0x00000000#32
  | .cmdPop => .cmdWord 0x00000001#32
  | .cmdFlush => .cmdWord 0x00000002#32
  | .cmdCrcClear => .cmdWord 0x00000003#32
  | .cmdCrcFeed nm1 => .cmdWord (0#19 ++ nm1 ++ 0x04#8)
  | .cmdCrcStop => .cmdWord 0x00000005#32
  | .cmdRelease => .cmdWord 0x00000006#32
  | .cmdGlitchClr => .cmdWord 0x00000007#32
  | .cmdReset => .cmdWord 0x00000008#32
  | .cmdReserved v => .cmdWord v

/-! The rows of the opcode table as patterns (R83, R100): an encoding belongs to a row when its masked bits are the
row's match bits. -/

/-- A row's pattern: over the MMIO key, or over the CMD word. -/
inductive RowPattern where
  | key (bits mask : BitVec 7)
  | cmd (bits mask : Word)
deriving DecidableEq, Repr

/-- The encoding lies in the row. -/
def RowPattern.covers : RowPattern → Encoded → Bool
  | .key bits mask, .mmio k _ => (k &&& mask) == bits
  | .cmd bits mask, .cmdWord w => (w &&& mask) == bits
  | .key _ _, .cmdWord _ => false
  | .cmd _ _, .mmio _ _ => false

/-- The row of spec/opcode_table.json an instruction is listed under. -/
def Instr.row : Instr → RowPattern
  | .rdId => .key 0x00#7 0x7F#7
  | .wrId _ => .key 0x40#7 0x7F#7
  | .rdCtrl => .key 0x01#7 0x7F#7
  | .wrCtrl _ => .key 0x41#7 0x7F#7
  | .rdStatus => .key 0x02#7 0x7F#7
  | .wrStatus _ => .key 0x42#7 0x7F#7
  | .rdHthr => .key 0x03#7 0x7F#7
  | .wrHthr _ => .key 0x43#7 0x7F#7
  | .rdLthr => .key 0x04#7 0x7F#7
  | .wrLthr _ => .key 0x44#7 0x7F#7
  | .rdNbp => .key 0x05#7 0x7F#7
  | .wrNbp _ => .key 0x45#7 0x7F#7
  | .rdSpo => .key 0x06#7 0x7F#7
  | .wrSpo _ => .key 0x46#7 0x7F#7
  | .rdSjw => .key 0x07#7 0x7F#7
  | .wrSjw _ => .key 0x47#7 0x7F#7
  | .rdMgw => .key 0x08#7 0x7F#7
  | .wrMgw _ => .key 0x48#7 0x7F#7
  | .rdCrc => .key 0x09#7 0x7F#7
  | .wrCrc _ => .key 0x49#7 0x7F#7
  | .rdRxcrc => .key 0x0A#7 0x7F#7
  | .wrRxcrc _ => .key 0x4A#7 0x7F#7
  | .rdCrcdin => .key 0x0B#7 0x7F#7
  | .wrCrcdin _ => .key 0x4B#7 0x7F#7
  | .rdCmd => .key 0x0C#7 0x7F#7
  | .wrCmd _ => .key 0x4C#7 0x7F#7
  | .rdEvtHead => .key 0x0D#7 0x7F#7
  | .wrEvtHead _ => .key 0x4D#7 0x7F#7
  | .rdEvtAux => .key 0x0E#7 0x7F#7
  | .wrEvtAux _ => .key 0x4E#7 0x7F#7
  | .rdEvtTlo => .key 0x0F#7 0x7F#7
  | .wrEvtTlo _ => .key 0x4F#7 0x7F#7
  | .rdEvtThi => .key 0x10#7 0x7F#7
  | .wrEvtThi _ => .key 0x50#7 0x7F#7
  | .rdEvtCnt => .key 0x11#7 0x7F#7
  | .wrEvtCnt _ => .key 0x51#7 0x7F#7
  | .rdTimeLo => .key 0x12#7 0x7F#7
  | .wrTimeLo _ => .key 0x52#7 0x7F#7
  | .rdTimeHi => .key 0x13#7 0x7F#7
  | .wrTimeHi _ => .key 0x53#7 0x7F#7
  | .rdGlitchCnt => .key 0x14#7 0x7F#7
  | .wrGlitchCnt _ => .key 0x54#7 0x7F#7
  | .rdIrqen => .key 0x15#7 0x7F#7
  | .wrIrqen _ => .key 0x55#7 0x7F#7
  | .rdSample => .key 0x16#7 0x7F#7
  | .wrSample _ => .key 0x56#7 0x7F#7
  | .rdCrstate => .key 0x17#7 0x7F#7
  | .wrCrstate _ => .key 0x57#7 0x7F#7
  | .rdDsstate => .key 0x18#7 0x7F#7
  | .wrDsstate _ => .key 0x58#7 0x7F#7
  | .rdIdlecnt => .key 0x19#7 0x7F#7
  | .wrIdlecnt _ => .key 0x59#7 0x7F#7
  | .rdReserved68 _ => .key 0x1A#7 0x7E#7
  | .rdReserved70 _ => .key 0x1C#7 0x7C#7
  | .rdReserved80 _ => .key 0x20#7 0x60#7
  | .wrReserved68 _ _ => .key 0x5A#7 0x7E#7
  | .wrReserved70 _ _ => .key 0x5C#7 0x7C#7
  | .wrReserved80 _ _ => .key 0x60#7 0x60#7
  | .cmdNop => .cmd 0x00000000#32 0xFFFFFFFF#32
  | .cmdPop => .cmd 0x00000001#32 0xFFFFFFFF#32
  | .cmdFlush => .cmd 0x00000002#32 0xFFFFFFFF#32
  | .cmdCrcClear => .cmd 0x00000003#32 0xFFFFFFFF#32
  | .cmdCrcFeed _ => .cmd 0x00000004#32 0xFFFFE0FF#32
  | .cmdCrcStop => .cmd 0x00000005#32 0xFFFFFFFF#32
  | .cmdRelease => .cmd 0x00000006#32 0xFFFFFFFF#32
  | .cmdGlitchClr => .cmd 0x00000007#32 0xFFFFFFFF#32
  | .cmdReset => .cmd 0x00000008#32 0xFFFFFFFF#32
  | .cmdReserved _ => .cmd 0x00000000#32 0x00000000#32

/-- R83: the rows with W = 0. -/
def readRows : List RowPattern :=
  [.key 0x00#7 0x7F#7,
   .key 0x01#7 0x7F#7,
   .key 0x02#7 0x7F#7,
   .key 0x03#7 0x7F#7,
   .key 0x04#7 0x7F#7,
   .key 0x05#7 0x7F#7,
   .key 0x06#7 0x7F#7,
   .key 0x07#7 0x7F#7,
   .key 0x08#7 0x7F#7,
   .key 0x09#7 0x7F#7,
   .key 0x0A#7 0x7F#7,
   .key 0x0B#7 0x7F#7,
   .key 0x0C#7 0x7F#7,
   .key 0x0D#7 0x7F#7,
   .key 0x0E#7 0x7F#7,
   .key 0x0F#7 0x7F#7,
   .key 0x10#7 0x7F#7,
   .key 0x11#7 0x7F#7,
   .key 0x12#7 0x7F#7,
   .key 0x13#7 0x7F#7,
   .key 0x14#7 0x7F#7,
   .key 0x15#7 0x7F#7,
   .key 0x16#7 0x7F#7,
   .key 0x17#7 0x7F#7,
   .key 0x18#7 0x7F#7,
   .key 0x19#7 0x7F#7,
   .key 0x1A#7 0x7E#7,
   .key 0x1C#7 0x7C#7,
   .key 0x20#7 0x60#7]

/-- R83: the rows with W = 1. -/
def writeRows : List RowPattern :=
  [.key 0x40#7 0x7F#7,
   .key 0x41#7 0x7F#7,
   .key 0x42#7 0x7F#7,
   .key 0x43#7 0x7F#7,
   .key 0x44#7 0x7F#7,
   .key 0x45#7 0x7F#7,
   .key 0x46#7 0x7F#7,
   .key 0x47#7 0x7F#7,
   .key 0x48#7 0x7F#7,
   .key 0x49#7 0x7F#7,
   .key 0x4A#7 0x7F#7,
   .key 0x4B#7 0x7F#7,
   .key 0x4C#7 0x7F#7,
   .key 0x4D#7 0x7F#7,
   .key 0x4E#7 0x7F#7,
   .key 0x4F#7 0x7F#7,
   .key 0x50#7 0x7F#7,
   .key 0x51#7 0x7F#7,
   .key 0x52#7 0x7F#7,
   .key 0x53#7 0x7F#7,
   .key 0x54#7 0x7F#7,
   .key 0x55#7 0x7F#7,
   .key 0x56#7 0x7F#7,
   .key 0x57#7 0x7F#7,
   .key 0x58#7 0x7F#7,
   .key 0x59#7 0x7F#7,
   .key 0x5A#7 0x7E#7,
   .key 0x5C#7 0x7C#7,
   .key 0x60#7 0x60#7]

/-- R100: the rows of the defined commands (the fallback row `cmd_reserved` left out). -/
def commandRows : List RowPattern :=
  [.cmd 0x00000000#32 0xFFFFFFFF#32,
   .cmd 0x00000001#32 0xFFFFFFFF#32,
   .cmd 0x00000002#32 0xFFFFFFFF#32,
   .cmd 0x00000003#32 0xFFFFFFFF#32,
   .cmd 0x00000004#32 0xFFFFE0FF#32,
   .cmd 0x00000005#32 0xFFFFFFFF#32,
   .cmd 0x00000006#32 0xFFFFFFFF#32,
   .cmd 0x00000007#32 0xFFFFFFFF#32,
   .cmd 0x00000008#32 0xFFFFFFFF#32]

/-- The first-level table (R82). -/
def keyRows : List RowPattern := readRows ++ writeRows

end Sys2Proof
end

