-- ==== Sys2Proof/Machine/State.lean ====
section
/-! DEFINITION. The state of RACCOON-CANRX (10_state.md), grouped by unit as R39 to R43 group it, with the OPEN
parameters (`params`) and the host's side of the bus (`host`) beside it. The block has no memory, no program counter
and no general registers (R20, R21, R47); IRQ holds no state (R38). -/

namespace Sys2Proof.Machine

/-- CTRL (R24, R85): its five defined bits. -/
structure Ctrl where
  en : Bool
  single : Bool
  inv : Bool
  crcm : Bool
  levev : Bool
deriving DecidableEq, Repr

/-- The six configuration registers that are locked while EN = 1 (R25 to R29, R45). -/
structure CfgRegs where
  hthr : Word
  lthr : Word
  nbp : BitVec 16
  spo : BitVec 16
  sjw : BitVec 16
  mgw : BitVec 8
deriving DecidableEq, Repr

/-- An event record `(head, aux, time)` (R37, R102). -/
structure Record where
  head : Word
  aux : Word
  time : Time
deriving DecidableEq, Repr

/-- Comparator state (R39). -/
structure Comparator where
  lvl : Level
deriving DecidableEq, Repr

/-- Glitch-filter state (R40). -/
structure GlitchFilter where
  runlv : Level
  runlen : BitVec 16
  runstart : Time
  rq : List Level
  flt : Level
deriving DecidableEq, Repr

/-- `st.CRM` (R41): 0 = HUNT, 1 = SYNC. -/
inductive SyncMode where
  | hunt
  | sync
deriving DecidableEq, Repr

/-- Clock-recovery state (R41). -/
structure ClockRecovery where
  crm : SyncMode
  idlecnt : BitVec 16
  ph : BitVec 16
  blen : BitVec 16
  smp : Bool
  rsy : Bool
  sofp : Bool
deriving DecidableEq, Repr

/-- Destuffer state (R42). -/
structure Destuffer where
  dsAct : Bool
  cnt : BitVec 3
  lv : Level
  endp : Bool
  didx : BitVec 16
deriving DecidableEq, Repr

/-- `st.CRCPH` (R43): 0 IDLE, 1 COVER, 2 RECV, 3 DONE. -/
inductive CrcPhase where
  | idle
  | cover
  | recv
  | done
deriving DecidableEq, Repr

/-- CRC engine control (R43). -/
structure CrcControl where
  crcph : CrcPhase
  stopp : Bool
  rxn : BitVec 4
deriving DecidableEq, Repr

/-- One bus transaction of the host (R14, R60, R62): a read or write of `size` bytes at physical address `addr`;
`data` is the write data and is not looked at by a read. -/
structure Access where
  write : Bool
  addr : Nat
  size : Nat
  data : Word
deriving DecidableEq, Repr

/-- What the outside world can do to the block: a bus transaction (R18), or hardware reset (R340, R341). -/
inductive HostEvent where
  | access (a : Access)
  | hardReset
deriving DecidableEq, Repr

/-- The host's side (the model's own fields, notes/assumptions/1.md and 2.md): the events that have still to reach the
block, in their order of arrival (R69), and the values its reads have returned so far, oldest first (R19). -/
structure HostPort where
  pending : List HostEvent
  returned : List Word
deriving DecidableEq, Repr

/-- The whole machine: parameters (R10), registers (R23 to R37), internal state (R39 to R43), host side. -/
structure State where
  params : Config.Params
  ctrl : Ctrl
  cfg : CfgRegs
  sticky : BitVec 9
  crc : BitVec 15
  rxcrc : BitVec 15
  crcdin : Word
  irqen : BitVec 10
  glitchCnt : Word
  time : Time
  evq : List Record
  cmp : Comparator
  gf : GlitchFilter
  cr : ClockRecovery
  ds : Destuffer
  cc : CrcControl
  host : HostPort
deriving DecidableEq, Repr

/-- Why a step stops. No operation of the block faults (R302, R317). -/
inductive Fault where
  /-- Raised by `step` for a host transaction outside the block's 256-byte window: the block decodes no such address
  and what lies there is the platform's (R60, R67). Safe: the model stops where the platform goes on. -/
  | outsideWindow
deriving DecidableEq, Repr

/-- Why an instruction has no meaning here. -/
inductive Refusal where
  /-- Raised by an arm of `exec` for an instruction that has no meaning yet; no arm does so now. Safe: the model stops
  where the block goes on. -/
  | notModelled (mnemonic : String)
deriving DecidableEq, Repr

/-- R39, R340: the comparator at reset and after an enable. -/
def Comparator.init : Comparator := { lvl := .recessive }

/-- R40, R340: the glitch filter at reset and after an enable. -/
def GlitchFilter.init : GlitchFilter :=
  { runlv := .recessive, runlen := 0xFFFF#16, runstart := 0#64, rq := [], flt := .recessive }

/-- R41, R340: clock recovery at reset and after an enable. -/
def ClockRecovery.init : ClockRecovery :=
  { crm := .hunt, idlecnt := 0#16, ph := 0#16, blen := 0#16, smp := false, rsy := false, sofp := false }

/-- R42, R340: the destuffer at reset and after an enable. -/
def Destuffer.init : Destuffer :=
  { dsAct := false, cnt := 0#3, lv := .recessive, endp := false, didx := 0#16 }

/-- R43, R340: the CRC engine control at reset and after an enable. -/
def CrcControl.init : CrcControl := { crcph := .idle, stopp := false, rxn := 0#4 }

/-- The state of R340 for given parameters and a given host side. -/
def State.resetWith (p : Config.Params) (h : HostPort) : State :=
  { params := p
    ctrl := { en := false, single := false, inv := false, crcm := false, levev := false }
    cfg := { hthr := 0#32, lthr := 0#32, nbp := 0#16, spo := 0#16, sjw := 0#16, mgw := 0#8 }
    sticky := 0#9
    crc := 0#15
    rxcrc := 0#15
    crcdin := 0#32
    irqen := 0#10
    glitchCnt := 0#32
    time := 0#64
    evq := []
    cmp := Comparator.init
    gf := GlitchFilter.init
    cr := ClockRecovery.init
    ds := Destuffer.init
    cc := CrcControl.init
    host := h }

/-- The machine right after reset (R340): every element at the value the spec states, the reference parameters, no
event of the host pending. -/
def State.reset : State := State.resetWith Config.reference { pending := [], returned := [] }

end Sys2Proof.Machine
end

