-- ==== Sys2Proof/Machine/Operands.lean ====
section
/-! DEFINITION. Operand forms and register layouts: bit values of levels and flags, the SAMPLE word, the layouts a
register read returns (30_encoding.md section 2), and the contents of event records (section 4). -/

namespace Sys2Proof

/-- R13: D is the bit value 0, R is the bit value 1. -/
def Level.bit : Level → Bool
  | .dominant => false
  | .recessive => true

namespace Machine

/-- R12: `sat_N(x) = min(x, 2^N − 1)`, as an N-bit register value. -/
def sat (n : Nat) (x : Nat) : BitVec n := BitVec.ofNat n (min x (2 ^ n - 1))

/-- A flag at bit position `pos` of a 32-bit word. -/
def flagAt (b : Bool) (pos : Nat) : Word := (BitVec.ofBool b).setWidth 32 <<< pos

/-- A field at bit position `pos` of a 32-bit word, zero-extended. -/
def fieldAt {n : Nat} (x : BitVec n) (pos : Nat) : Word := x.setWidth 32 <<< pos

/-- R98: `H = sext_16(word[15:0])`. -/
def sampleH (v : Word) : Int := (v.extractLsb' 0 16).toInt

/-- R98: `L = sext_16(word[31:16])`. -/
def sampleL (v : Word) : Int := (v.extractLsb' 16 16).toInt

/-- R61: byte lane `k` of a register word is its bits `[8k+7:8k]`. No legal access observes it (R62). -/
def byteLane (w : Word) (k : Nat) : Byte := w.extractLsb' (8 * k) 8

/-- R41: `st.CRM` as a bit, 0 = HUNT, 1 = SYNC. -/
def SyncMode.bit : SyncMode → Bool
  | .hunt => false
  | .sync => true

/-- R43: `st.CRCPH` as two bits. -/
def CrcPhase.code : CrcPhase → BitVec 2
  | .idle => 0#2
  | .cover => 1#2
  | .recv => 2#2
  | .done => 3#2

/-- R23, R84: ID holds "CAN1". -/
def idWord : Word := 0x43414E31#32

/-- R85, R243: CTRL as read. -/
def ctrlWord (c : Ctrl) : Word :=
  flagAt c.en 0 ||| flagAt c.single 1 ||| flagAt c.inv 2 ||| flagAt c.crcm 3 ||| flagAt c.levev 4

/-- R85, R244: the four mode fields `v[4:1]` stored, EN left alone. -/
def Ctrl.withModes (c : Ctrl) (v : Word) : Ctrl :=
  { c with single := v.getLsbD 1, inv := v.getLsbD 2, crcm := v.getLsbD 3, levev := v.getLsbD 4 }

/-- R86, R245: STATUS as read: the sticky bits and the six live bits. -/
def statusWord (s : State) : Word :=
  fieldAt s.sticky 0 ||| flagAt s.cmp.lvl.bit 16 ||| flagAt s.gf.flt.bit 17 ||| flagAt s.cr.crm.bit 18 |||
    flagAt s.ds.dsAct 19 ||| flagAt (decide (s.cc.crcph = .cover)) 20 ||| flagAt (decide (0 < s.evq.length)) 21

/-- R95: CRSTATE as read. -/
def crstateWord (s : State) : Word := fieldAt s.cr.ph 0 ||| fieldAt s.cr.blen 16

/-- R96: DSSTATE as read. -/
def dsstateWord (s : State) : Word :=
  fieldAt s.ds.cnt 0 ||| flagAt s.ds.lv.bit 3 ||| flagAt s.ds.endp 4 ||| flagAt s.cc.stopp 5 |||
    fieldAt s.cc.crcph.code 6 ||| fieldAt s.cc.rxn 8 ||| flagAt s.cr.sofp 12 ||| flagAt s.cr.smp 13 |||
    flagAt s.cr.rsy 14

/-- R94, R264: EVT_CNT is the length of EVQ (a 32-bit word; notes/assumptions/14.md). -/
def evtCntWord (s : State) : Word := BitVec.ofNat 32 s.evq.length

/-- R109, R263: the record the EVT_* registers show: the head record, or zeros when EVQ is empty. -/
def shownRecord (q : List Record) : Record :=
  match q with
  | [] => { head := 0#32, aux := 0#32, time := 0#64 }
  | r :: _ => r

/-- R103: the TYPE codes of the records the block produces. -/
inductive RecordType where
  | level
  | glitch
  | bit
  | crc
deriving DecidableEq, Repr

/-- R103: the code of a record type. -/
def RecordType.code : RecordType → BitVec 4
  | .level => 1#4
  | .glitch => 2#4
  | .bit => 3#4
  | .crc => 4#4

/-- R102, R311: a record of a type: `TYPE << 28 | data[27:0]`, aux, time. -/
def mkRecord (ty : RecordType) (data : BitVec 28) (aux : Word) (time : Time) : Record :=
  { head := ty.code ++ data, aux := aux, time := time }

/-- R102: `head[31:28]`, the TYPE of a record. -/
def Record.typeCode (r : Record) : BitVec 4 := r.head.extractLsb' 28 4

/-- R105, R106: the data of a LEVEL or GLITCH record, a level in bit 0. -/
def levelData (l : Level) : BitVec 28 := (BitVec.ofBool l.bit).setWidth 28

/-- R107, R188: the flags of a BIT record. -/
structure BitFlags where
  val : Level
  stuff : Bool
  serr : Bool
  region : Bool
  sof : Bool
  crcf : Bool
  crcb : Bool
deriving DecidableEq, Repr

/-- R107: the data bits [27:0] of a BIT record, flags at bits 0 to 6. -/
def bitData (f : BitFlags) : BitVec 28 :=
  (BitVec.ofBool f.crcb ++ BitVec.ofBool f.crcf ++ BitVec.ofBool f.sof ++ BitVec.ofBool f.region ++
    BitVec.ofBool f.serr ++ BitVec.ofBool f.stuff ++ BitVec.ofBool f.val.bit).setWidth 28

/-- R108, R217: the data bits of a CRC record, `crc | ERR << 15`. -/
def crcData (crc : BitVec 15) (err : Bool) : BitVec 28 := (BitVec.ofBool err ++ crc).setWidth 28

end Machine
end Sys2Proof
end

