-- ==== Sys2Proof/Machine/Flags.lean ====
section
/-! DEFINITION. The block's flags: the nine sticky bits of STATUS (R22, R86, R300), write-1-to-clear (R246), and the
interrupt output computed from them (R38, R314). -/

namespace Sys2Proof.Machine

/-- The sticky conditions (R86, R300). -/
inductive Sticky where
  | setupErr
  | accErr
  | cmdErr
  | ovf
  | glitch
  | stuffErr
  | crcErr
  | crcOk
  | sof
deriving DecidableEq, Repr

/-- R86, R300: the STATUS bit index, which is also the code of the condition. -/
def Sticky.index : Sticky → Nat
  | .setupErr => 0
  | .accErr => 1
  | .cmdErr => 2
  | .ovf => 3
  | .glitch => 4
  | .stuffErr => 5
  | .crcErr => 6
  | .crcOk => 7
  | .sof => 8

/-- The bit of a condition in STATUS[8:0]. -/
def Sticky.mask (b : Sticky) : BitVec 9 := 1#9 <<< b.index

/-- The condition is recorded in the state (R303). -/
def State.hasSticky (s : State) (b : Sticky) : Bool := s.sticky.getLsbD b.index

/-- R14: `set_sticky(NAME)`. -/
def setSticky (b : Sticky) (s : State) : State := { s with sticky := s.sticky ||| b.mask }

/-- R246: `sticky[8:0] <- sticky[8:0] & ~v[8:0]`. -/
def clearSticky (v : Word) (s : State) : State := { s with sticky := s.sticky &&& ~~~(v.extractLsb' 0 9) }

/-- R314: the interrupt output, a level, in any state. -/
def State.irq (s : State) : Bool :=
  decide (s.sticky &&& s.irqen.extractLsb' 0 9 ≠ 0#9) || (s.irqen.getLsbD 9 && decide (0 < s.evq.length))

end Sys2Proof.Machine
end

