-- ==== Sys2Proof/Machine/Ops.lean ====
section
/-! DEFINITION. Operations shared by the meanings: returning a read value, the refused access, the event queue (R310,
R311), reset (R340), the enable check and initialisation (R342, R343). The block takes no exception and has no return
from one: it raises no trap, saves nothing, changes no mode and has no vector (R317, R318); an error is a sticky bit. -/

namespace Sys2Proof.Machine

/-- A host read returns the value `v` (R19); nothing of the block changes (R65). -/
def hostReturn (v : Word) (s : State) : State :=
  { s with host := { s.host with returned := s.host.returned ++ [v] } }

/-- A refused access does `set_sticky(ACC_ERR)` and nothing else (R62, R241, R247, R268, R269, R316). -/
def refuseAccess (s : State) : State := setSticky .accErr s

/-- A refused read returns 0 and does `set_sticky(ACC_ERR)` (R62, R269). -/
def refuseRead (s : State) : State := hostReturn 0#32 (refuseAccess s)

/-- R311: `emit(TYPE, data, aux, time)`: appended at the tail, or dropped with OVF when EVQ is full. -/
def emit (ty : RecordType) (data : BitVec 28) (aux : Word) (time : Time) (s : State) : State :=
  if s.evq.length = s.params.evqDepth then setSticky .ovf s
  else { s with evq := s.evq ++ [mkRecord ty data aux time] }

/-- R252: the head record is removed, if there is one. -/
def popRecord (s : State) : State := { s with evq := s.evq.tail }

/-- R253: EVQ is emptied; OVF is kept. -/
def flushRecords (s : State) : State := { s with evq := [] }

/-- R340: hardware reset and the RESET command. The parameters and the host's side are not the block's state. -/
def resetBlock (s : State) : State := State.resetWith s.params s.host

/-- R342: `config_ok()`. -/
def configOk (c : CfgRegs) : Bool :=
  decide (c.lthr.toInt < c.hthr.toInt) && decide (1 ≤ c.nbp.toNat) && decide (c.spo.toNat < c.nbp.toNat) &&
    decide (c.sjw.toNat < c.nbp.toNat)

/-- R343: `enable_init()`: TIME and every pipeline element take their enable values; the rest is kept. -/
def enableInit (s : State) : State :=
  { s with
    time := 0#64
    cmp := Comparator.init
    gf := GlitchFilter.init
    cr := ClockRecovery.init
    ds := Destuffer.init
    cc := CrcControl.init }

/-- R244: the effect of `wr CTRL, v`. -/
def writeCtrl (v : Word) (s : State) : State :=
  if s.ctrl.en then
    if v.getLsbD 0 then s else { s with ctrl := { s.ctrl with en := false } }
  else
    let s1 := { s with ctrl := s.ctrl.withModes v }
    if v.getLsbD 0 then
      if configOk s1.cfg then enableInit { s1 with ctrl := { s1.ctrl with en := true } }
      else setSticky .setupErr s1
    else s1

/-- R45, R247: a configuration write `f` is refused with ACC_ERR while EN = 1. -/
def writeConfig (f : CfgRegs → CfgRegs) (s : State) : State :=
  if s.ctrl.en then refuseAccess s else { s with cfg := f s.cfg }

/-- R29, R140: the filter window `W = max(MGW, 1)`. -/
def State.window (s : State) : Nat := max s.cfg.mgw.toNat 1

end Sys2Proof.Machine
end

