-- ==== Sys2Proof/Machine/Bus.lean ====
section
/-! DEFINITION. How the next operation reaches the block: the oldest pending event of the host is taken (R64, R69), the
window is decoded (R60) and the access is decoded (R62, R80, R82). There is no fetch and no program counter (R21). -/

namespace Sys2Proof.Machine

/-- R60: the byte offset of a physical address in the window `BASE` to `BASE + 255`, if it lies there. -/
def windowOffset (p : Config.Params) (addr : Nat) : Option (BitVec 8) :=
  if p.base ≤ addr ∧ addr < p.base + Config.windowSize then some (BitVec.ofNat 8 (addr - p.base)) else none

/-- What the host's next event asks of the block, with the state in which the event has been taken from the host. -/
inductive Request where
  /-- No event is pending: the block never steps on its own (R18, R64). -/
  | quiet
  /-- The hardware reset input (R340). -/
  | reset (s : State)
  /-- An access outside the window (R60). -/
  | outside
  /-- An access in the window that decodes to no operation (R62). -/
  | illegal (write : Bool) (s : State)
  /-- A legal access: its operation (R80, R82). -/
  | run (i : Instr) (s : State)

/-- The oldest pending event is taken from the host. -/
def takeEvent (rest : List HostEvent) (s : State) : State := { s with host := { s.host with pending := rest } }

/-- R60, R62, R82: the request of one bus access. -/
def accessRequest (a : Access) (s : State) : Request :=
  match windowOffset s.params a.addr with
  | none => .outside
  | some off =>
    match decodeAccess a.write off a.size a.data with
    | .ok i => .run i s
    | .error _ => .illegal a.write s

/-- The request of the oldest pending event. -/
def nextRequest (s : State) : Request :=
  match s.host.pending with
  | [] => .quiet
  | .hardReset :: rest => .reset (takeEvent rest s)
  | .access a :: rest => accessRequest a (takeEvent rest s)

/-- R62: an illegal read returns 0, an illegal write changes nothing, and both set ACC_ERR. -/
def illegalAccess (write : Bool) (s : State) : State := if write then refuseAccess s else refuseRead s

/-- The bus access of an opcode-table row given as a number (numbered as `decodeTableWord` numbers it): an MMIO key
with a data word of zeros, or a CMD word as the data of a CMD write. -/
def tableAccess (base nbits w : Nat) : Access :=
  if nbits ≤ 8 then { write := (BitVec.ofNat 7 w).getLsbD 6, addr := base + 4 * (w % 64), size := 4, data := 0#32 }
  else { write := true, addr := base + 0x30, size := 4, data := BitVec.ofNat 32 w }

end Sys2Proof.Machine
end

