-- ==== Sys2Proof/Machine/CrcEngine.lean ====
section
/-! DEFINITION. The CRC-15 checker (43_crc.md): the shift, the frame engine called once per region bit, and the direct
feed. -/

namespace Sys2Proof.Machine

/-- R211: `crc_step(c, b)`. -/
def crcStep (c : BitVec 15) (b : Bool) : BitVec 15 :=
  let nxt := b ^^ c.getLsbD 14
  let c1 := c <<< 1
  if nxt then c1 ^^^ Config.poly else c1

/-- R255: feed `din[n−1]` down to `din[0]`, most significant first. -/
def crcFeed (din : Word) : Nat → BitVec 15 → BitVec 15
  | 0, c => c
  | n + 1, c => crcFeed din n (crcStep c (din.getLsbD n))

/-- R212: `crc_frame_start()`. -/
def crcFrameStart (s : State) : State :=
  { s with crc := 0#15, rxcrc := 0#15, cc := { crcph := .cover, stopp := false, rxn := 0#4 } }

/-- What `crc_bit` hands back to the destuffer (R185, R214): CRCF, CRCB, the data and aux words of a CRC record if the
comparison was made, and the state. -/
structure CrcOutcome where
  crcf : Bool
  crcb : Bool
  record : Option (BitVec 28 × Word)
  st : State
deriving DecidableEq, Repr

/-- R217: `compare(t)`: the flag, the record's data and aux, phase DONE, and the region-end request. -/
def crcCompare (s : State) : CrcOutcome :=
  let err := decide (s.rxcrc ≠ s.crc)
  let s1 := setSticky (if err then .crcErr else .crcOk) s
  { crcf := false
    crcb := true
    record := some (crcData s.crc err, s.rxcrc.setWidth 32)
    st := { s1 with cc := { s1.cc with crcph := .done }, ds := { s1.ds with endp := true } } }

/-- R216: `capture(t, b)`: one more CRC field bit, most significant first; the 15th is compared. -/
def crcCapture (b : Level) (s : State) : CrcOutcome :=
  let s1 := { s with
    rxcrc := (s.rxcrc <<< 1) ||| (BitVec.ofBool b.bit).setWidth 15
    cc := { s.cc with rxn := s.cc.rxn + 1#4 } }
  if s1.cc.rxn = Config.crcFieldLen then crcCompare s1
  else { crcf := false, crcb := true, record := none, st := s1 }

/-- R214, first half: COVER ends at the first data bit after CRC_STOP; otherwise a covered bit is fed. The flag is
CRCF. -/
def crcCover (b : Level) (data stuff : Bool) (s : State) : Bool × State :=
  if s.cc.crcph = .cover then
    if s.cc.stopp && data then (false, { s with cc := { s.cc with crcph := .recv, stopp := false } })
    else if data || (!s.ctrl.crcm && stuff) then (true, { s with crc := crcStep s.crc b.bit })
    else (false, s)
  else (false, s)

/-- R214: `crc_bit(t, b, data, stuff)`. -/
def crcBit (b : Level) (data stuff : Bool) (s : State) : CrcOutcome :=
  let r := crcCover b data stuff s
  if r.2.cc.crcph = .recv ∧ data = true then { crcCapture b r.2 with crcf := r.1 }
  else { crcf := r.1, crcb := false, record := none, st := r.2 }

end Sys2Proof.Machine
end

