-- ==== Sys2Proof/Machine/Commands.lean ====
section
/-! DEFINITION. The commands and the CMD register (44_host_ops.md section 2, R249). -/

namespace Sys2Proof.Machine

/-- R256: CRC_STOP ends the coverage of an open region in COVER; otherwise CMD_ERR. -/
def crcStop (s : State) : State :=
  if s.ds.dsAct = true ∧ s.cc.crcph = .cover then { s with cc := { s.cc with stopp := true } }
  else setSticky .cmdErr s

/-- R257, R189, R222: RELEASE in SYNC returns to HUNT and closes the region; in HUNT it does nothing. -/
def release (s : State) : State :=
  match s.cr.crm with
  | .hunt => s
  | .sync =>
    { s with
      cr := { s.cr with crm := .hunt, ph := 0#16, blen := 0#16, smp := false, rsy := false, sofp := false }
      ds := { s.ds with dsAct := false, endp := false, cnt := 0#3 }
      cc := { s.cc with crcph := .idle, stopp := false } }

/-- NOP does nothing (R251). -/
def execCmdNop (s : State) : Host.Outcome State Fault Refusal := .next (s)

/-- POP removes the head record, if any (R252). -/
def execCmdPop (s : State) : Host.Outcome State Fault Refusal := .next (popRecord s)

/-- FLUSH empties EVQ; OVF is kept (R253). -/
def execCmdFlush (s : State) : Host.Outcome State Fault Refusal := .next (flushRecords s)

/-- CRC_CLEAR, whatever EN and CRCPH (R254, R220). -/
def execCmdCrcClear (s : State) : Host.Outcome State Fault Refusal := .next ({ s with crc := 0#15 })

/-- CRC_FEED, N = NM1 + 1 bits of CRCDIN, whatever EN and CRCPH (R255, R220). -/
def execCmdCrcFeed (nm1 : BitVec 5) (s : State) : Host.Outcome State Fault Refusal :=
  .next { s with crc := crcFeed s.crcdin (nm1.toNat + 1) s.crc }

/-- CRC_STOP (R256). -/
def execCmdCrcStop (s : State) : Host.Outcome State Fault Refusal := .next (crcStop s)

/-- RELEASE (R257). -/
def execCmdRelease (s : State) : Host.Outcome State Fault Refusal := .next (release s)

/-- GLITCH_CLR; the sticky GLITCH bit is kept (R258). -/
def execCmdGlitchClr (s : State) : Host.Outcome State Fault Refusal := .next ({ s with glitchCnt := 0#32 })

/-- RESET, the reset of R340 (R259). -/
def execCmdReset (s : State) : Host.Outcome State Fault Refusal := .next (resetBlock s)

/-- A reserved CMD word: CMD_ERR and no other change (R250, R262). -/
def execCmdReserved (_v : Word) (s : State) : Host.Outcome State Fault Refusal := .next (setSticky .cmdErr s)

/-- `rd CMD`: a write-only register reads 0, no side effect (R249). -/
def execRdCmd (s : State) : Host.Outcome State Fault Refusal := .next (hostReturn 0#32 s)

/-- `wr CMD, v`: the command `v` decodes to is executed within the write (R250, R261). -/
def execWrCmd (v : Word) (s : State) : Host.Outcome State Fault Refusal :=
  match decodeCommand v with
  | .nop => execCmdNop s
  | .pop => execCmdPop s
  | .flush => execCmdFlush s
  | .crcClear => execCmdCrcClear s
  | .crcFeed nm1 => execCmdCrcFeed nm1 s
  | .crcStop => execCmdCrcStop s
  | .release => execCmdRelease s
  | .glitchClr => execCmdGlitchClr s
  | .reset => execCmdReset s
  | .reserved w => execCmdReserved w s

end Sys2Proof.Machine
end

