-- ==== Sys2Proof/Machine/Configuration.lean ====
section
/-! DEFINITION. The configuration registers HTHR, LTHR, NBP, SPO, SJW and MGW (R242, R247). -/

namespace Sys2Proof.Machine

/-- `rd HTHR` (R242, R88). -/
def execRdHthr (s : State) : Host.Outcome State Fault Refusal := .next (hostReturn s.cfg.hthr s)

/-- `wr HTHR, v`: the full word, locked while EN = 1 (R247, R88). -/
def execWrHthr (v : Word) (s : State) : Host.Outcome State Fault Refusal := .next (writeConfig (fun c => { c with hthr := v }) s)

/-- `rd LTHR` (R242, R88). -/
def execRdLthr (s : State) : Host.Outcome State Fault Refusal := .next (hostReturn s.cfg.lthr s)

/-- `wr LTHR, v`: the full word, locked while EN = 1 (R247, R88). -/
def execWrLthr (v : Word) (s : State) : Host.Outcome State Fault Refusal := .next (writeConfig (fun c => { c with lthr := v }) s)

/-- `rd NBP` (R242, R89). -/
def execRdNbp (s : State) : Host.Outcome State Fault Refusal := .next (hostReturn (fieldAt s.cfg.nbp 0) s)

/-- `wr NBP, v`: `v[15:0]`, locked while EN = 1 (R247, R89). -/
def execWrNbp (v : Word) (s : State) : Host.Outcome State Fault Refusal := .next (writeConfig (fun c => { c with nbp := v.extractLsb' 0 16 }) s)

/-- `rd SPO` (R242, R89). -/
def execRdSpo (s : State) : Host.Outcome State Fault Refusal := .next (hostReturn (fieldAt s.cfg.spo 0) s)

/-- `wr SPO, v`: `v[15:0]`, locked while EN = 1 (R247, R89). -/
def execWrSpo (v : Word) (s : State) : Host.Outcome State Fault Refusal := .next (writeConfig (fun c => { c with spo := v.extractLsb' 0 16 }) s)

/-- `rd SJW` (R242, R89). -/
def execRdSjw (s : State) : Host.Outcome State Fault Refusal := .next (hostReturn (fieldAt s.cfg.sjw 0) s)

/-- `wr SJW, v`: `v[15:0]`, locked while EN = 1 (R247, R89). -/
def execWrSjw (v : Word) (s : State) : Host.Outcome State Fault Refusal := .next (writeConfig (fun c => { c with sjw := v.extractLsb' 0 16 }) s)

/-- `rd MGW` (R242, R90). -/
def execRdMgw (s : State) : Host.Outcome State Fault Refusal := .next (hostReturn (fieldAt s.cfg.mgw 0) s)

/-- `wr MGW, v`: `v[7:0]`, locked while EN = 1 (R247, R90). -/
def execWrMgw (v : Word) (s : State) : Host.Outcome State Fault Refusal := .next (writeConfig (fun c => { c with mgw := v.extractLsb' 0 8 }) s)

end Sys2Proof.Machine
end

