-- ==== Sys2Proof/Machine/Control.lean ====
section
/-! DEFINITION. Identification and control: ID, CTRL, STATUS and IRQEN (44_host_ops.md section 1, R266). -/

namespace Sys2Proof.Machine

/-- `rd ID` returns the constant (R240). -/
def execRdId (s : State) : Host.Outcome State Fault Refusal := .next (hostReturn idWord s)

/-- `wr ID`: a read-only register, ACC_ERR and no other change, whatever EN and v (R241). -/
def execWrId (_v : Word) (s : State) : Host.Outcome State Fault Refusal := .next (refuseAccess s)

/-- `rd CTRL` (R243). -/
def execRdCtrl (s : State) : Host.Outcome State Fault Refusal := .next (hostReturn (ctrlWord s.ctrl) s)

/-- `wr CTRL, v`: enable, disable, mode fields (R244). -/
def execWrCtrl (v : Word) (s : State) : Host.Outcome State Fault Refusal := .next (writeCtrl v s)

/-- `rd STATUS`; the sticky bits are kept (R245). -/
def execRdStatus (s : State) : Host.Outcome State Fault Refusal := .next (hostReturn (statusWord s) s)

/-- `wr STATUS, v`: write 1 to clear (R246). -/
def execWrStatus (v : Word) (s : State) : Host.Outcome State Fault Refusal := .next (clearSticky v s)

/-- `rd IRQEN`, zero-extended (R242, R93). -/
def execRdIrqen (s : State) : Host.Outcome State Fault Refusal := .next (hostReturn (fieldAt s.irqen 0) s)

/-- `wr IRQEN, v`: `v[9:0]`, whatever EN (R266). -/
def execWrIrqen (v : Word) (s : State) : Host.Outcome State Fault Refusal := .next ({ s with irqen := v.extractLsb' 0 10 })

end Sys2Proof.Machine
end

