-- ==== Sys2Proof/Machine/Counters.lean ====
section
/-! DEFINITION. The counters TIME and GLITCH_CNT (R265, R242, R241). -/

namespace Sys2Proof.Machine

/-- `rd TIME_LO` (R265). -/
def execRdTimeLo (s : State) : Host.Outcome State Fault Refusal := .next (hostReturn (s.time.extractLsb' 0 32) s)

/-- `wr TIME_LO`: a read-only register, ACC_ERR and no other change, whatever EN and v (R241). -/
def execWrTimeLo (_v : Word) (s : State) : Host.Outcome State Fault Refusal := .next (refuseAccess s)

/-- `rd TIME_HI` (R265). -/
def execRdTimeHi (s : State) : Host.Outcome State Fault Refusal := .next (hostReturn (s.time.extractLsb' 32 32) s)

/-- `wr TIME_HI`: a read-only register, ACC_ERR and no other change, whatever EN and v (R241). -/
def execWrTimeHi (_v : Word) (s : State) : Host.Outcome State Fault Refusal := .next (refuseAccess s)

/-- `rd GLITCH_CNT` (R242, R94). -/
def execRdGlitchCnt (s : State) : Host.Outcome State Fault Refusal := .next (hostReturn s.glitchCnt s)

/-- `wr GLITCH_CNT`: a read-only register, ACC_ERR and no other change, whatever EN and v (R241). -/
def execWrGlitchCnt (_v : Word) (s : State) : Host.Outcome State Fault Refusal := .next (refuseAccess s)

end Sys2Proof.Machine
end

