-- ==== Sys2Proof/Machine/CrcRegisters.lean ====
section
/-! DEFINITION. The CRC registers CRC, RXCRC and CRCDIN (R242, R241, R248). -/

namespace Sys2Proof.Machine

/-- `rd CRC`, zero-extended (R242, R91). -/
def execRdCrc (s : State) : Host.Outcome State Fault Refusal := .next (hostReturn (fieldAt s.crc 0) s)

/-- `wr CRC`: a read-only register, ACC_ERR and no other change, whatever EN and v (R241). -/
def execWrCrc (_v : Word) (s : State) : Host.Outcome State Fault Refusal := .next (refuseAccess s)

/-- `rd RXCRC`, zero-extended (R242, R91). -/
def execRdRxcrc (s : State) : Host.Outcome State Fault Refusal := .next (hostReturn (fieldAt s.rxcrc 0) s)

/-- `wr RXCRC`: a read-only register, ACC_ERR and no other change, whatever EN and v (R241). -/
def execWrRxcrc (_v : Word) (s : State) : Host.Outcome State Fault Refusal := .next (refuseAccess s)

/-- `rd CRCDIN` (R242, R92). -/
def execRdCrcdin (s : State) : Host.Outcome State Fault Refusal := .next (hostReturn s.crcdin s)

/-- `wr CRCDIN, v`, whatever EN; CRC is not touched (R248). -/
def execWrCrcdin (v : Word) (s : State) : Host.Outcome State Fault Refusal := .next ({ s with crcdin := v })

end Sys2Proof.Machine
end

