-- ==== Sys2Proof/Machine/DebugRegs.lean ====
section
/-! DEFINITION. The debug read-back registers CRSTATE, DSSTATE and IDLECNT (R267, R241). -/

namespace Sys2Proof.Machine

/-- `rd CRSTATE` (R267, R95). -/
def execRdCrstate (s : State) : Host.Outcome State Fault Refusal := .next (hostReturn (crstateWord s) s)

/-- `wr CRSTATE`: a read-only register, ACC_ERR and no other change, whatever EN and v (R241). -/
def execWrCrstate (_v : Word) (s : State) : Host.Outcome State Fault Refusal := .next (refuseAccess s)

/-- `rd DSSTATE` (R267, R96). -/
def execRdDsstate (s : State) : Host.Outcome State Fault Refusal := .next (hostReturn (dsstateWord s) s)

/-- `wr DSSTATE`: a read-only register, ACC_ERR and no other change, whatever EN and v (R241). -/
def execWrDsstate (_v : Word) (s : State) : Host.Outcome State Fault Refusal := .next (refuseAccess s)

/-- `rd IDLECNT`, zero-extended (R267, R97). -/
def execRdIdlecnt (s : State) : Host.Outcome State Fault Refusal := .next (hostReturn (fieldAt s.cr.idlecnt 0) s)

/-- `wr IDLECNT`: a read-only register, ACC_ERR and no other change, whatever EN and v (R241). -/
def execWrIdlecnt (_v : Word) (s : State) : Host.Outcome State Fault Refusal := .next (refuseAccess s)

end Sys2Proof.Machine
end

