-- ==== Sys2Proof/Machine/Events.lean ====
section
/-! DEFINITION. The event-queue registers (R263, R264, R241). -/

namespace Sys2Proof.Machine

/-- `rd EVT_HEAD`: the head record's head word, or 0; the record stays (R263). -/
def execRdEvtHead (s : State) : Host.Outcome State Fault Refusal := .next (hostReturn (shownRecord s.evq).head s)

/-- `wr EVT_HEAD`: a read-only register, ACC_ERR and no other change, whatever EN and v (R241). -/
def execWrEvtHead (_v : Word) (s : State) : Host.Outcome State Fault Refusal := .next (refuseAccess s)

/-- `rd EVT_AUX` (R263). -/
def execRdEvtAux (s : State) : Host.Outcome State Fault Refusal := .next (hostReturn (shownRecord s.evq).aux s)

/-- `wr EVT_AUX`: a read-only register, ACC_ERR and no other change, whatever EN and v (R241). -/
def execWrEvtAux (_v : Word) (s : State) : Host.Outcome State Fault Refusal := .next (refuseAccess s)

/-- `rd EVT_TLO`: `time[31:0]` (R263). -/
def execRdEvtTlo (s : State) : Host.Outcome State Fault Refusal := .next (hostReturn ((shownRecord s.evq).time.extractLsb' 0 32) s)

/-- `wr EVT_TLO`: a read-only register, ACC_ERR and no other change, whatever EN and v (R241). -/
def execWrEvtTlo (_v : Word) (s : State) : Host.Outcome State Fault Refusal := .next (refuseAccess s)

/-- `rd EVT_THI`: `time[63:32]` (R263). -/
def execRdEvtThi (s : State) : Host.Outcome State Fault Refusal := .next (hostReturn ((shownRecord s.evq).time.extractLsb' 32 32) s)

/-- `wr EVT_THI`: a read-only register, ACC_ERR and no other change, whatever EN and v (R241). -/
def execWrEvtThi (_v : Word) (s : State) : Host.Outcome State Fault Refusal := .next (refuseAccess s)

/-- `rd EVT_CNT` (R264). -/
def execRdEvtCnt (s : State) : Host.Outcome State Fault Refusal := .next (hostReturn (evtCntWord s) s)

/-- `wr EVT_CNT`: a read-only register, ACC_ERR and no other change, whatever EN and v (R241). -/
def execWrEvtCnt (_v : Word) (s : State) : Host.Outcome State Fault Refusal := .next (refuseAccess s)

end Sys2Proof.Machine
end

