-- ==== Sys2Proof/Machine/Reserved.lean ====
section
/-! DEFINITION. The reserved offsets 0x68 to 0xFC (R269, R101). -/

namespace Sys2Proof.Machine

/-- Read of a reserved offset 0x68 to 0x6C: returns 0, ACC_ERR (R269). -/
def execRdReserved68 (_off : BitVec 8) (s : State) : Host.Outcome State Fault Refusal := .next (refuseRead s)

/-- Read of a reserved offset 0x70 to 0x7C: returns 0, ACC_ERR (R269). -/
def execRdReserved70 (_off : BitVec 8) (s : State) : Host.Outcome State Fault Refusal := .next (refuseRead s)

/-- Read of a reserved offset 0x80 to 0xFC: returns 0, ACC_ERR (R269). -/
def execRdReserved80 (_off : BitVec 8) (s : State) : Host.Outcome State Fault Refusal := .next (refuseRead s)

/-- Write to a reserved offset 0x68 to 0x6C: ACC_ERR and no other change (R269). -/
def execWrReserved68 (_off : BitVec 8) (_v : Word) (s : State) : Host.Outcome State Fault Refusal := .next (refuseAccess s)

/-- Write to a reserved offset 0x70 to 0x7C: ACC_ERR and no other change (R269). -/
def execWrReserved70 (_off : BitVec 8) (_v : Word) (s : State) : Host.Outcome State Fault Refusal := .next (refuseAccess s)

/-- Write to a reserved offset 0x80 to 0xFC: ACC_ERR and no other change (R269). -/
def execWrReserved80 (_off : BitVec 8) (_v : Word) (s : State) : Host.Outcome State Fault Refusal := .next (refuseAccess s)

end Sys2Proof.Machine
end

