-- ==== Sys2Proof/Machine/BitDestuffer.lean ====
section
/-! DEFINITION. The bit destuffer (42_destuffer.md). -/

namespace Sys2Proof.Machine

/-- R180: `region_open()`. -/
def regionOpen (s : State) : State :=
  { s with ds := { dsAct := true, cnt := 0#3, lv := .recessive, endp := false, didx := 0#16 } }

/-- How a region bit is classified (R182, R183), with the run it leaves behind. -/
structure BitClass where
  data : Bool
  stuff : Bool
  serr : Bool
  cnt : BitVec 3
  lv : Level
deriving DecidableEq, Repr

/-- R182 to R184: a bit in a stuff slot (`CNT = 5`) is a stuff bit or a violation and restarts the run; any other bit
is a data bit and is counted. -/
def classifyBit (cnt : BitVec 3) (lv b : Level) : BitClass :=
  if cnt = Config.stuffRun then
    if b ≠ lv then { data := false, stuff := true, serr := false, cnt := 1#3, lv := b }
    else { data := true, stuff := false, serr := true, cnt := 1#3, lv := b }
  else if 0 < cnt.toNat ∧ b = lv then { data := true, stuff := false, serr := false, cnt := cnt + 1#3, lv := lv }
  else { data := true, stuff := false, serr := false, cnt := 1#3, lv := b }

/-- R182, R183: the run of the classified bit is stored and a violation is flagged. -/
def storeRun (c : BitClass) (s : State) : State :=
  let s1 := { s with ds := { s.ds with cnt := c.cnt, lv := c.lv } }
  if c.serr then setSticky .stuffErr s1 else s1

/-- R186: a data bit advances DIDX, saturating. -/
def countData (data : Bool) (s : State) : State :=
  if data then { s with ds := { s.ds with didx := sat 16 (s.ds.didx.toNat + 1) } } else s

/-- R188: the CRC record, when the comparison was made, follows the BIT record. -/
def emitCrcRecord (t : Time) (r : Option (BitVec 28 × Word)) (s : State) : State :=
  match r with
  | none => s
  | some (data, aux) => emit .crc data aux t s

/-- R187: the region closes once its end is requested and no stuff bit is due. -/
def regionEnd (s : State) : State :=
  if s.ds.endp = true ∧ s.ds.cnt.toNat < Config.stuffRun.toNat then
    { s with ds := { s.ds with dsAct := false, endp := false } }
  else s

/-- R182, R183: the class of the bit `b` in the region as it stands. -/
def regionClass (b : Level) (s : State) : BitClass := classifyBit s.ds.cnt s.ds.lv b

/-- R185: the CRC hand-off, after the run has been stored. -/
def regionCrc (b : Level) (s : State) : CrcOutcome :=
  crcBit b (regionClass b s).data (regionClass b s).stuff (storeRun (regionClass b s) s)

/-- R188: the flags of a region bit's record. -/
def regionFlags (b : Level) (sof : Bool) (s : State) : BitFlags :=
  { val := b
    stuff := (regionClass b s).stuff
    serr := (regionClass b s).serr
    region := true
    sof := sof
    crcf := (regionCrc b s).crcf
    crcb := (regionCrc b s).crcb }

/-- R182 to R188: a bit inside the region. -/
def regionBit (t : Time) (b : Level) (sof : Bool) (s : State) : State :=
  let counted := countData (regionClass b s).data (regionCrc b s).st
  let recorded := emit .bit (bitData (regionFlags b sof s)) (s.ds.didx.setWidth 32) t counted
  regionEnd (emitCrcRecord t (regionCrc b s).record recorded)

/-- R181: a bit outside the region: its record, every flag 0, and nothing else. -/
def outsideBit (t : Time) (b : Level) (s : State) : State := emit .bit (levelData b) 0#32 t s

/-- R181, R182: `destuff_bit(t, b, sof)`. -/
def destuffBit (t : Time) (b : Level) (sof : Bool) (s : State) : State :=
  if s.ds.dsAct then regionBit t b sof s else outsideBit t b s

end Sys2Proof.Machine
end

