-- ==== Sys2Proof/Machine/ClockRec.lean ====
section
/-! DEFINITION. Clock recovery (41_clock_recovery.md, section 2): one step per filtered sample. -/

namespace Sys2Proof.Machine

/-- R143: a Recessive → Dominant edge between the filtered levels `fp` and `f`. -/
def isEdge (f fp : Level) : Bool := decide (fp = .recessive ∧ f = .dominant)

/-- R143: hard synchronisation, then `region_open()` (R180) and `crc_frame_start()` (R212). -/
def hardSync (s : State) : State :=
  let s1 := { s with cr := { s.cr with
    crm := .sync, ph := 0#16, blen := s.cfg.nbp, smp := false, rsy := false, sofp := true } }
  crcFrameStart (regionOpen (setSticky .sof s1))

/-- R143: the search for the SOF: an edge after a confirmed idle hard-syncs. -/
def huntStep (edge : Bool) (s : State) : State :=
  if edge = true ∧ s.cfg.nbp.toNat ≤ s.cr.idlecnt.toNat then hardSync s else s

/-- R144: the phase advances; at the end of the bit a new one begins. -/
def bitBoundary (nbp : BitVec 16) (c : ClockRecovery) : ClockRecovery :=
  let c1 := { c with ph := c.ph + 1#16 }
  if c1.ph = c1.blen then { c1 with ph := 0#16, blen := nbp, smp := false } else c1

/-- R147: the three conditions of a soft resync. -/
def resyncQualifies (edge : Bool) (c : ClockRecovery) : Bool := edge && decide (c.ph ≠ 0#16) && !c.rsy

/-- R148: the edge is late: the bit is not yet sampled, or `PH ≤ BLEN − PH` over the integers. -/
def edgeIsLate (c : ClockRecovery) : Bool :=
  !c.smp || decide ((c.ph.toNat : Int) ≤ (c.blen.toNat : Int) - c.ph.toNat)

/-- R148: the bit start moves `s = min(PH, SJW)` samples later. -/
def lateShift (sjw : BitVec 16) (c : ClockRecovery) : ClockRecovery :=
  { c with ph := BitVec.ofNat 16 (c.ph.toNat - min c.ph.toNat sjw.toNat), rsy := true }

/-- R149: the current bit ends `s = min(BLEN − PH, SJW)` samples sooner; a full correction starts a new bit. -/
def earlyShift (nbp sjw : BitVec 16) (c : ClockRecovery) : ClockRecovery :=
  let shift : Int := min ((c.blen.toNat : Int) - c.ph.toNat) sjw.toNat
  let c1 := { c with blen := BitVec.ofInt 16 ((c.blen.toNat : Int) - shift), rsy := true }
  if c1.blen = c1.ph then { c1 with ph := 0#16, blen := nbp, smp := false } else c1

/-- R147 to R149: `soft_resync(edge)`. -/
def softResync (nbp sjw : BitVec 16) (edge : Bool) (c : ClockRecovery) : ClockRecovery :=
  if resyncQualifies edge c then
    if edgeIsLate c then lateShift sjw c else earlyShift nbp sjw c
  else c

/-- R144, R147: one step of the running bit timing. -/
def syncStep (edge : Bool) (s : State) : State :=
  { s with cr := softResync s.cfg.nbp s.cfg.sjw edge (bitBoundary s.cfg.nbp s.cr) }

/-- R143, R144: hunt or run, before sampling. -/
def timingStep (edge : Bool) (s : State) : State :=
  match s.cr.crm with
  | .hunt => huntStep edge s
  | .sync => syncStep edge s

/-- R145: the bit is due for sampling. -/
def samplingDue (s : State) : Bool :=
  decide (s.cr.crm = .sync) && !s.cr.smp && decide (s.cr.ph = s.cfg.spo)

/-- R145: sampling at phase SPO, once per bit. -/
def sampleStep (t : Time) (f : Level) (s : State) : State :=
  if samplingDue s then
    destuffBit t f s.cr.sofp { s with cr := { s.cr with smp := true, rsy := false, sofp := false } }
  else s

/-- R150: `st.IDLECNT <- (f == R) ? sat_16(st.IDLECNT + 1) : 0`. -/
def idleStep (f : Level) (s : State) : State :=
  { s with cr := { s.cr with
    idlecnt := if f = .recessive then sat 16 (s.cr.idlecnt.toNat + 1) else 0#16 } }

/-- R143 to R150: `clock_recovery_step(t, f, fp)`. -/
def clockRecoveryStep (t : Time) (f fp : Level) (s : State) : State :=
  idleStep f (sampleStep t f (timingStep (isEdge f fp) s))

end Sys2Proof.Machine
end

