-- ==== Sys2Proof/Machine/Frontend.lean ====
section
/-! DEFINITION. The front of the pipeline: the hysteretic comparator (40_comparator.md) and the glitch filter
(41_clock_recovery.md, section 1). -/

namespace Sys2Proof.Machine

/-- R120: the integer V of a SAMPLE word, exact. -/
def sampleValue (c : Ctrl) (v : Word) : Int :=
  let v0 := if c.single then sampleH v else sampleH v - sampleL v
  if c.inv then -v0 else v0

/-- R121: the level decision with hysteresis. -/
def decideLevel (c : CfgRegs) (x : Int) (old : Level) : Level :=
  if c.hthr.toInt < x then .dominant
  else if x < c.lthr.toInt then .recessive
  else old

/-- R120 to R122: the comparator for the sample of index `n`; it may emit a LEVEL record. -/
def comparatorStep (n : Time) (v : Word) (s : State) : State :=
  let new := decideLevel s.cfg (sampleValue s.ctrl v) s.cmp.lvl
  let s1 := { s with cmp := { lvl := new } }
  if s.ctrl.levev = true ∧ new ≠ s.cmp.lvl then emit .level (levelData new) 0#32 n s1 else s1

/-- R140: a raw run shorter than W that has ended is counted, flagged and recorded. -/
def reportGlitch (s : State) : State :=
  if s.gf.runlen.toNat < s.window then
    let s1 := { s with glitchCnt := sat 32 (s.glitchCnt.toNat + 1) }
    emit .glitch (levelData s.gf.runlv) (s.gf.runlen.setWidth 32) s.gf.runstart (setSticky .glitch s1)
  else s

/-- R140: glitch detection for the raw level of sample `n`. -/
def glitchDetect (n : Time) (raw : Level) (s : State) : State :=
  if raw = s.gf.runlv then { s with gf := { s.gf with runlen := sat 16 (s.gf.runlen.toNat + 1) } }
  else
    let s1 := reportGlitch s
    { s1 with gf := { s1.gf with runlv := raw, runlen := 1#16, runstart := n } }

/-- R141: the filtered level of a full window: its level when it is constant, else the level held. -/
def filterDecision (q : List Level) (held : Level) : Level :=
  match q with
  | [] => held
  | a :: r => if r.all (fun x => decide (x = a)) then a else held

/-- R141: filtering: once W raw levels are queued, index `n − (W − 1)` is decided and clock recovery runs for it. -/
def glitchFilter (n : Time) (raw : Level) (s : State) : State :=
  let q := s.gf.rq ++ [raw]
  if q.length = s.window then
    let f := filterDecision q s.gf.flt
    clockRecoveryStep (n - BitVec.ofNat 64 (s.window - 1)) f s.gf.flt
      { s with gf := { s.gf with rq := q.tail, flt := f } }
  else { s with gf := { s.gf with rq := q } }

/-- R36, R268: TIME counts the sample, modulo 2^64. -/
def advanceTime (s : State) : State := { s with time := s.time + 1#64 }

/-- R268: the tick of an accepted sample: comparator, glitch detection, glitch filter (with everything behind it),
then TIME. -/
def tick (v : Word) (s : State) : State :=
  let s1 := comparatorStep s.time v s
  let s2 := glitchDetect s.time s1.cmp.lvl s1
  advanceTime (glitchFilter s.time s1.cmp.lvl s2)

end Sys2Proof.Machine
end

