-- ==== Sys2Proof/Machine/SamplePort.lean ====
section
/-! DEFINITION. The SAMPLE register: one write is one tick of the pipeline (R249, R268). -/

namespace Sys2Proof.Machine

/-- `rd SAMPLE`: a write-only register reads 0, no side effect (R249). -/
def execRdSample (s : State) : Host.Outcome State Fault Refusal := .next (hostReturn 0#32 s)

/-- `wr SAMPLE, v`: refused with ACC_ERR while EN = 0, else one tick (R268). -/
def execWrSample (v : Word) (s : State) : Host.Outcome State Fault Refusal := .next (if s.ctrl.en then tick v s else refuseAccess s)

end Sys2Proof.Machine
end

