-- ==== Sys2Proof/Machine/Dispatch.lean ====
section
/-! DEFINITION. The dispatch: one arm per constructor of Instr, each one direct call of its meaning. -/

namespace Sys2Proof.Machine

def exec (i : Instr) (s : State) : Host.Outcome State Fault Refusal :=
  match i with
  | .rdId => Sys2Proof.Machine.execRdId s
  | .wrId v => Sys2Proof.Machine.execWrId v s
  | .rdCtrl => Sys2Proof.Machine.execRdCtrl s
  | .wrCtrl v => Sys2Proof.Machine.execWrCtrl v s
  | .rdStatus => Sys2Proof.Machine.execRdStatus s
  | .wrStatus v => Sys2Proof.Machine.execWrStatus v s
  | .rdHthr => Sys2Proof.Machine.execRdHthr s
  | .wrHthr v => Sys2Proof.Machine.execWrHthr v s
  | .rdLthr => Sys2Proof.Machine.execRdLthr s
  | .wrLthr v => Sys2Proof.Machine.execWrLthr v s
  | .rdNbp => Sys2Proof.Machine.execRdNbp s
  | .wrNbp v => Sys2Proof.Machine.execWrNbp v s
  | .rdSpo => Sys2Proof.Machine.execRdSpo s
  | .wrSpo v => Sys2Proof.Machine.execWrSpo v s
  | .rdSjw => Sys2Proof.Machine.execRdSjw s
  | .wrSjw v => Sys2Proof.Machine.execWrSjw v s
  | .rdMgw => Sys2Proof.Machine.execRdMgw s
  | .wrMgw v => Sys2Proof.Machine.execWrMgw v s
  | .rdCrc => Sys2Proof.Machine.execRdCrc s
  | .wrCrc v => Sys2Proof.Machine.execWrCrc v s
  | .rdRxcrc => Sys2Proof.Machine.execRdRxcrc s
  | .wrRxcrc v => Sys2Proof.Machine.execWrRxcrc v s
  | .rdCrcdin => Sys2Proof.Machine.execRdCrcdin s
  | .wrCrcdin v => Sys2Proof.Machine.execWrCrcdin v s
  | .rdCmd => Sys2Proof.Machine.execRdCmd s
  | .wrCmd v => Sys2Proof.Machine.execWrCmd v s
  | .rdEvtHead => Sys2Proof.Machine.execRdEvtHead s
  | .wrEvtHead v => Sys2Proof.Machine.execWrEvtHead v s
  | .rdEvtAux => Sys2Proof.Machine.execRdEvtAux s
  | .wrEvtAux v => Sys2Proof.Machine.execWrEvtAux v s
  | .rdEvtTlo => Sys2Proof.Machine.execRdEvtTlo s
  | .wrEvtTlo v => Sys2Proof.Machine.execWrEvtTlo v s
  | .rdEvtThi => Sys2Proof.Machine.execRdEvtThi s
  | .wrEvtThi v => Sys2Proof.Machine.execWrEvtThi v s
  | .rdEvtCnt => Sys2Proof.Machine.execRdEvtCnt s
  | .wrEvtCnt v => Sys2Proof.Machine.execWrEvtCnt v s
  | .rdTimeLo => Sys2Proof.Machine.execRdTimeLo s
  | .wrTimeLo v => Sys2Proof.Machine.execWrTimeLo v s
  | .rdTimeHi => Sys2Proof.Machine.execRdTimeHi s
  | .wrTimeHi v => Sys2Proof.Machine.execWrTimeHi v s
  | .rdGlitchCnt => Sys2Proof.Machine.execRdGlitchCnt s
  | .wrGlitchCnt v => Sys2Proof.Machine.execWrGlitchCnt v s
  | .rdIrqen => Sys2Proof.Machine.execRdIrqen s
  | .wrIrqen v => Sys2Proof.Machine.execWrIrqen v s
  | .rdSample => Sys2Proof.Machine.execRdSample s
  | .wrSample v => Sys2Proof.Machine.execWrSample v s
  | .rdCrstate => Sys2Proof.Machine.execRdCrstate s
  | .wrCrstate v => Sys2Proof.Machine.execWrCrstate v s
  | .rdDsstate => Sys2Proof.Machine.execRdDsstate s
  | .wrDsstate v => Sys2Proof.Machine.execWrDsstate v s
  | .rdIdlecnt => Sys2Proof.Machine.execRdIdlecnt s
  | .wrIdlecnt v => Sys2Proof.Machine.execWrIdlecnt v s
  | .rdReserved68 off => Sys2Proof.Machine.execRdReserved68 off s
  | .rdReserved70 off => Sys2Proof.Machine.execRdReserved70 off s
  | .rdReserved80 off => Sys2Proof.Machine.execRdReserved80 off s
  | .wrReserved68 off v => Sys2Proof.Machine.execWrReserved68 off v s
  | .wrReserved70 off v => Sys2Proof.Machine.execWrReserved70 off v s
  | .wrReserved80 off v => Sys2Proof.Machine.execWrReserved80 off v s
  | .cmdNop => Sys2Proof.Machine.execCmdNop s
  | .cmdPop => Sys2Proof.Machine.execCmdPop s
  | .cmdFlush => Sys2Proof.Machine.execCmdFlush s
  | .cmdCrcClear => Sys2Proof.Machine.execCmdCrcClear s
  | .cmdCrcFeed nm1 => Sys2Proof.Machine.execCmdCrcFeed nm1 s
  | .cmdCrcStop => Sys2Proof.Machine.execCmdCrcStop s
  | .cmdRelease => Sys2Proof.Machine.execCmdRelease s
  | .cmdGlitchClr => Sys2Proof.Machine.execCmdGlitchClr s
  | .cmdReset => Sys2Proof.Machine.execCmdReset s
  | .cmdReserved v => Sys2Proof.Machine.execCmdReserved v s

end Sys2Proof.Machine
end

