-- ==== Sys2Proof/Machine/Step.lean ====
section
/-! DEFINITION. One step of the machine: one event of the host, performed as one indivisible transition (R18, R64). -/

namespace Sys2Proof.Machine

/-- R64: one host transaction (or hardware reset). With nothing pending the state stays as it is: the block changes
state only in host accesses (notes/assumptions/7.md). -/
def step (s : State) : Host.Outcome State Fault Refusal :=
  match nextRequest s with
  | .quiet => .next s
  | .reset s1 => .next (resetBlock s1)
  | .outside => .fault .outsideWindow
  | .illegal write s1 => .next (illegalAccess write s1)
  | .run i s1 => exec i s1

/-- The state whose next step performs the opcode-table row `w` of `nbits` bits: its access stands before every event
already pending (notes/assumptions/1.md). A number that names no row leaves the state as it is. -/
def State.withFetchWord (s : State) (nbits w : Nat) : State :=
  match decodeTableWord nbits w with
  | none => s
  | some _ => takeEvent (.access (tableAccess s.params.base nbits w) :: s.host.pending) s

end Sys2Proof.Machine
end

