-- ==== Sys2Proof/Machine/HostAsm.lean ====
section
/-! DEFINITION. The host assembly syntax (R110, R111): each line expands to the bus transactions the host issues. The
assembler refuses an operand outside its range. -/

namespace Sys2Proof.Machine

/-- The named registers of R83. -/
inductive RegName where
  | id
  | ctrl
  | status
  | hthr
  | lthr
  | nbp
  | spo
  | sjw
  | mgw
  | crc
  | rxcrc
  | crcdin
  | cmd
  | evtHead
  | evtAux
  | evtTlo
  | evtThi
  | evtCnt
  | timeLo
  | timeHi
  | glitchCnt
  | irqen
  | sample
  | crstate
  | dsstate
  | idlecnt
deriving DecidableEq, Repr

/-- R83: `off(NAME)`. -/
def RegName.offset : RegName → Nat
  | .id => 0x00
  | .ctrl => 0x04
  | .status => 0x08
  | .hthr => 0x0C
  | .lthr => 0x10
  | .nbp => 0x14
  | .spo => 0x18
  | .sjw => 0x1C
  | .mgw => 0x20
  | .crc => 0x24
  | .rxcrc => 0x28
  | .crcdin => 0x2C
  | .cmd => 0x30
  | .evtHead => 0x34
  | .evtAux => 0x38
  | .evtTlo => 0x3C
  | .evtThi => 0x40
  | .evtCnt => 0x44
  | .timeLo => 0x48
  | .timeHi => 0x4C
  | .glitchCnt => 0x50
  | .irqen => 0x54
  | .sample => 0x58
  | .crstate => 0x5C
  | .dsstate => 0x60
  | .idlecnt => 0x64

/-- The commands `cmd NAME` without an operand (R111). -/
inductive PlainCommand where
  | nop
  | pop
  | flush
  | crcClear
  | crcStop
  | release
  | glitchClr
  | reset
deriving DecidableEq, Repr

/-- R100: the opcode of a command without an operand. -/
def PlainCommand.opcode : PlainCommand → Word
  | .nop => 0x00#32
  | .pop => 0x01#32
  | .flush => 0x02#32
  | .crcClear => 0x03#32
  | .crcStop => 0x05#32
  | .release => 0x06#32
  | .glitchClr => 0x07#32
  | .reset => 0x08#32

/-- A line of a host program (R110, R111). -/
inductive HostLine where
  | rd (r : RegName)
  | wr (r : RegName) (v : Int)
  | cmd (c : PlainCommand)
  | cmdCrcFeed (n : Nat)
  | sample (h l : Int)
  | sampleOne (h : Int)
  | clear (m : Int)
  | enable (c : Int)
  | disable
  | rdevt
deriving DecidableEq, Repr

/-- R110: a 32-bit constant; a negative decimal stands for its two's-complement word. -/
def asmWord (v : Int) : Option Word :=
  if -(2 ^ 31) ≤ v ∧ v < 2 ^ 32 then some (BitVec.ofInt 32 v) else none

/-- R111: a sample operand is an integer from −32768 to 32767. -/
def asmSample (v : Int) : Option (BitVec 16) :=
  if -32768 ≤ v ∧ v ≤ 32767 then some (BitVec.ofInt 16 v) else none

/-- R110: `MemRead(BASE + off(NAME), 4)`. -/
def readOf (base : Nat) (r : RegName) : Access := { write := false, addr := base + r.offset, size := 4, data := 0#32 }

/-- R110: `MemWrite(BASE + off(NAME), 4, v)`. -/
def writeOf (base : Nat) (r : RegName) (v : Word) : Access :=
  { write := true, addr := base + r.offset, size := 4, data := v }

/-- R111: `sample h, l` as the SAMPLE word. -/
def sampleWordOf (h l : Int) : Option Word :=
  match asmSample h, asmSample l with
  | some a, some b => some (b ++ a)
  | some _, none => none
  | none, _ => none

/-- R110, R111: the bus transactions of a line, or none where the assembler refuses an operand. -/
def HostLine.expand (base : Nat) : HostLine → Option (List Access)
  | .rd r => some [readOf base r]
  | .wr r v => (asmWord v).map (fun w => [writeOf base r w])
  | .cmd c => some [writeOf base .cmd c.opcode]
  | .cmdCrcFeed n =>
    if 1 ≤ n ∧ n ≤ 32 then some [writeOf base .cmd (0x04#32 ||| (BitVec.ofNat 32 (n - 1) <<< 8))] else none
  | .sample h l => (sampleWordOf h l).map (fun w => [writeOf base .sample w])
  | .sampleOne h => (sampleWordOf h 0).map (fun w => [writeOf base .sample w])
  | .clear m => (asmWord m).map (fun w => [writeOf base .status w])
  | .enable c => (asmWord c).map (fun w => [writeOf base .ctrl (w ||| 1#32)])
  | .disable => some [writeOf base .ctrl 0#32]
  | .rdevt =>
    some [readOf base .evtHead, readOf base .evtAux, readOf base .evtTlo, readOf base .evtThi,
      writeOf base .cmd (PlainCommand.opcode .pop)]

end Sys2Proof.Machine
end

