-- ==== Sys2Proof/Machine/Reference.lean ====
section
/-! DEFINITION. The reference functions the spec states properties against: the CRC as a function of a bit list (R221),
the stuffing function of a valid transmitter (R191), the filtered sequence (R141), and runs of one unit over a list of
inputs. -/

namespace Sys2Proof.Machine

/-- R221: `crc15(s) = fold(crc_step, 0, s)`. -/
def crc15 (s : List Bool) : BitVec 15 := s.foldl crcStep 0#15

/-- R224: `bits15(v)`, v[14] down to v[0]. -/
def bits15 (v : BitVec 15) : List Bool := (List.range 15).map (fun i => v.getLsbD (14 - i))

/-- R255: the low N bits of a word, most significant first. -/
def lowBits (w : Word) (n : Nat) : List Bool := (List.range n).map (fun i => w.getLsbD (n - 1 - i))

/-- The opposite level. -/
def opposite : Level → Level
  | .dominant => .recessive
  | .recessive => .dominant

/-- R191: `stuff` from a run of `run` bits equal to `last`, each bit with a mark that says whether it was inserted. -/
def stuffMarkedFrom (run : Nat) (last : Option Level) : List Level → List (Level × Bool)
  | [] => []
  | x :: xs =>
    let run1 := if last = some x then run + 1 else 1
    if run1 = 5 then (x, false) :: (opposite x, true) :: stuffMarkedFrom 1 (some (opposite x)) xs
    else (x, false) :: stuffMarkedFrom run1 (some x) xs

/-- R191: what a valid transmitter sends for `s`, inserted bits marked. -/
def stuffMarked (s : List Level) : List (Level × Bool) := stuffMarkedFrom 0 none s

/-- R191: `stuff(s)`. -/
def stuff (s : List Level) : List Level := (stuffMarked s).map Prod.fst

/-- R182 to R184: the bits of a region with their classification, from a run `cnt` of level `lv` on. -/
def classifyRun : BitVec 3 → Level → List Level → List (Level × BitClass)
  | _, _, [] => []
  | cnt, lv, b :: bs =>
    let c := classifyBit cnt lv b
    (b, c) :: classifyRun c.cnt c.lv bs

/-- R17: the data bits among classified bits. -/
def dataBits (l : List (Level × BitClass)) : List Level := (l.filter (fun p => p.2.data)).map Prod.fst

/-- R141: the W raw levels from index `t` on are all there and equal. -/
def constantFrom (raw : List Level) (w t : Nat) : Bool :=
  decide (t + w ≤ raw.length) && ((raw.drop t).take w).all (fun x => decide (raw[t]? = some x))

/-- R141: the filtered sequence: `F(t) = raw[t]` where the W levels from t on are equal, else `F(t − 1)`, with
`F(−1) = R`. The argument counts the decided indices, so `filteredLevel raw w (t + 1)` is `F(t)`. -/
def filteredLevel (raw : List Level) (w : Nat) : Nat → Level
  | 0 => .recessive
  | t + 1 =>
    if constantFrom raw w t then (raw[t]?).getD .recessive else filteredLevel raw w t

/-- The glitch filter run over a list of raw levels from sample index `n` on. -/
def runFilter : Time → List Level → State → State
  | _, [], s => s
  | n, r :: rs, s => runFilter (n + 1#64) rs (glitchFilter n r s)

/-- The comparator run over a list of SAMPLE words from sample index `n` on. -/
def runComparator : Time → List Word → State → State
  | _, [], s => s
  | n, v :: vs, s => runComparator (n + 1#64) vs (comparatorStep n v s)

/-- The destuffer run over a list of bits, the `i`-th sampled at time `t + i`; the first carries the SOF mark. -/
def runDestuffer : Time → List Level → Bool → State → State
  | _, [], _, s => s
  | t, b :: bs, sof, s => runDestuffer (t + 1#64) bs false (destuffBit t b sof s)

/-- Clock recovery run over a list of filtered levels, `held` the level before the first. -/
def runClockRecovery : Time → Level → List Level → State → State
  | _, _, [], s => s
  | t, held, f :: fs, s => runClockRecovery (t + 1#64) f fs (clockRecoveryStep t f held s)

/-- R145: clock recovery run as by `runClockRecovery`, told by step whether the step samples a bit. -/
def samplingFlags : Time → Level → List Level → State → List Bool
  | _, _, [], _ => []
  | t, held, f :: fs, s =>
    samplingDue (timingStep (isEdge f held) s) :: samplingFlags (t + 1#64) f fs (clockRecoveryStep t f held s)

/-- R107: VAL of a BIT record. -/
def Record.bitVal (r : Record) : Level := if r.head.getLsbD 0 then .recessive else .dominant

/-- R107: STUFF. -/
def Record.bitStuff (r : Record) : Bool := r.head.getLsbD 1

/-- R107: SERR. -/
def Record.bitSerr (r : Record) : Bool := r.head.getLsbD 2

end Sys2Proof.Machine
end

