-- ==== Sys2Proof/Safety.lean ====
section
/-! DEFINITION. The terms of the safety claims: the invariants of R46 (10_state.md) in the form every step keeps, the
states a machine can come to, and the classes of operations the whole-machine rules speak of. -/

namespace Sys2Proof.Safety

open Sys2Proof.Machine

/-- A record the block produces: TYPE 1 to 4 (R103, R104, I10). -/
def typedRecord (r : Record) : Bool := decide (1 ≤ r.typeCode.toNat ∧ r.typeCode.toNat ≤ 4)

/-- What holds between operations while the block runs (EN = 1): the configuration passed the enable check and is
frozen (R45, R342), the filter's queue is short of a window, and in SYNC the phase lies in its bit (R46). R46 states
these two of every reachable state; they rest on R45's freeze, so they are kept here under EN = 1
(notes/assumptions/12.md). A bit not yet sampled is still before its sample point (R145) and has its full length: only
an early edge shortens a bit, and only a sampled one (R144, R148, R149). -/
structure Running (s : State) : Prop where
  config : configOk s.cfg = true
  queueShort : s.gf.rq.length < s.window
  phaseInBit : s.cr.crm = .sync → s.cr.ph.toNat < s.cr.blen.toNat ∧ s.cr.blen.toNat ≤ s.cfg.nbp.toNat
  unsampledBeforePoint : s.cr.crm = .sync → s.cr.smp = false → s.cr.ph.toNat < s.cfg.spo.toNat
  unsampledFull : s.cr.crm = .sync → s.cr.smp = false → s.cr.blen = s.cfg.nbp

/-- The invariant (R46, the record types of R103, and what it takes to keep them). -/
structure Inv (s : State) : Prop where
  running : s.ctrl.en = true → Running s
  runShort : s.ds.cnt.toNat ≤ 5
  fieldCount : s.cc.rxn.toNat ≤ 15
  regionInSync : s.ds.dsAct = true → s.cr.crm = .sync
  phaseInRegion : s.cc.crcph = .cover ∨ s.cc.crcph = .recv → s.ds.dsAct = true
  sofUnsampled : s.cr.sofp = true → s.cr.smp = false
  queueFits : s.evq.length ≤ s.params.evqDepth
  endRequested : s.ds.endp = true → s.ds.dsAct = true ∧ s.cc.crcph = .done
  stopInCover : s.cc.stopp = true → s.cc.crcph = .cover
  coverCount : s.cc.crcph = .cover → s.cc.rxn = 0#4
  captureCount : s.cc.crcph = .recv → s.cc.rxn.toNat < 15
  huntCleared : s.cr.crm = .hunt →
    s.cr.ph = 0#16 ∧ s.cr.blen = 0#16 ∧ s.cr.smp = false ∧ s.cr.rsy = false ∧ s.cr.sofp = false
  recordsTyped : ∀ r ∈ s.evq, typedRecord r = true

/-- R46 word for word, its eight bullets, with no regard to EN. -/
def AsWorded (s : State) : Prop :=
  s.gf.rq.length ≤ s.window - 1 ∧
  (s.cr.crm = .sync → s.cr.ph.toNat < s.cr.blen.toNat ∧ s.cr.blen.toNat ≤ s.cfg.nbp.toNat) ∧
  s.ds.cnt.toNat ≤ 5 ∧ s.cc.rxn.toNat ≤ 15 ∧
  (s.ds.dsAct = true → s.cr.crm = .sync) ∧
  (s.cc.crcph = .cover ∨ s.cc.crcph = .recv → s.ds.dsAct = true) ∧
  (s.cr.sofp = true → s.cr.smp = false) ∧
  s.evq.length ≤ s.params.evqDepth

/-- R214 to R217: the next data bit of the region is the 15th of the CRC field and is compared. The second case, the first
bit of a field with 14 already counted, is one no run reaches. -/
def comparisonDue (s : State) : Prop :=
  s.cr.crm = .sync ∧ s.ds.dsAct = true ∧ s.cc.rxn = 14#4 ∧
    (s.cc.crcph = .recv ∨ (s.cc.crcph = .cover ∧ s.cc.stopp = true))

/-- The states a machine with legal parameters can come to, whatever the host does (R70). -/
inductive Reachable : State → Prop where
  | reset (p : Config.Params) (h : HostPort) : p.wf = true → Reachable (State.resetWith p h)
  | step (s t : State) : Reachable s → Machine.step s = .next t → Reachable t

/-- The operation answers a next state in which the host has been returned `w` and nothing else is changed. -/
def Returns (i : Instr) (s : State) (w : Word) : Prop :=
  exec i s = .next { s with host := { s.host with returned := s.host.returned ++ [w] } }

/-- R65: a read of a defined register. -/
def definedRead : Instr → Bool
  | .rdId => true
  | .wrId _ => false
  | .rdCtrl => true
  | .wrCtrl _ => false
  | .rdStatus => true
  | .wrStatus _ => false
  | .rdHthr => true
  | .wrHthr _ => false
  | .rdLthr => true
  | .wrLthr _ => false
  | .rdNbp => true
  | .wrNbp _ => false
  | .rdSpo => true
  | .wrSpo _ => false
  | .rdSjw => true
  | .wrSjw _ => false
  | .rdMgw => true
  | .wrMgw _ => false
  | .rdCrc => true
  | .wrCrc _ => false
  | .rdRxcrc => true
  | .wrRxcrc _ => false
  | .rdCrcdin => true
  | .wrCrcdin _ => false
  | .rdCmd => true
  | .wrCmd _ => false
  | .rdEvtHead => true
  | .wrEvtHead _ => false
  | .rdEvtAux => true
  | .wrEvtAux _ => false
  | .rdEvtTlo => true
  | .wrEvtTlo _ => false
  | .rdEvtThi => true
  | .wrEvtThi _ => false
  | .rdEvtCnt => true
  | .wrEvtCnt _ => false
  | .rdTimeLo => true
  | .wrTimeLo _ => false
  | .rdTimeHi => true
  | .wrTimeHi _ => false
  | .rdGlitchCnt => true
  | .wrGlitchCnt _ => false
  | .rdIrqen => true
  | .wrIrqen _ => false
  | .rdSample => true
  | .wrSample _ => false
  | .rdCrstate => true
  | .wrCrstate _ => false
  | .rdDsstate => true
  | .wrDsstate _ => false
  | .rdIdlecnt => true
  | .wrIdlecnt _ => false
  | .rdReserved68 _ => false
  | .rdReserved70 _ => false
  | .rdReserved80 _ => false
  | .wrReserved68 _ _ => false
  | .wrReserved70 _ _ => false
  | .wrReserved80 _ _ => false
  | .cmdNop => false
  | .cmdPop => false
  | .cmdFlush => false
  | .cmdCrcClear => false
  | .cmdCrcFeed _ => false
  | .cmdCrcStop => false
  | .cmdRelease => false
  | .cmdGlitchClr => false
  | .cmdReset => false
  | .cmdReserved _ => false

/-- R241: a write to a read-only register. -/
def readOnlyWrite : Instr → Bool
  | .rdId => false
  | .wrId _ => true
  | .rdCtrl => false
  | .wrCtrl _ => false
  | .rdStatus => false
  | .wrStatus _ => false
  | .rdHthr => false
  | .wrHthr _ => false
  | .rdLthr => false
  | .wrLthr _ => false
  | .rdNbp => false
  | .wrNbp _ => false
  | .rdSpo => false
  | .wrSpo _ => false
  | .rdSjw => false
  | .wrSjw _ => false
  | .rdMgw => false
  | .wrMgw _ => false
  | .rdCrc => false
  | .wrCrc _ => true
  | .rdRxcrc => false
  | .wrRxcrc _ => true
  | .rdCrcdin => false
  | .wrCrcdin _ => false
  | .rdCmd => false
  | .wrCmd _ => false
  | .rdEvtHead => false
  | .wrEvtHead _ => true
  | .rdEvtAux => false
  | .wrEvtAux _ => true
  | .rdEvtTlo => false
  | .wrEvtTlo _ => true
  | .rdEvtThi => false
  | .wrEvtThi _ => true
  | .rdEvtCnt => false
  | .wrEvtCnt _ => true
  | .rdTimeLo => false
  | .wrTimeLo _ => true
  | .rdTimeHi => false
  | .wrTimeHi _ => true
  | .rdGlitchCnt => false
  | .wrGlitchCnt _ => true
  | .rdIrqen => false
  | .wrIrqen _ => false
  | .rdSample => false
  | .wrSample _ => false
  | .rdCrstate => false
  | .wrCrstate _ => true
  | .rdDsstate => false
  | .wrDsstate _ => true
  | .rdIdlecnt => false
  | .wrIdlecnt _ => true
  | .rdReserved68 _ => false
  | .rdReserved70 _ => false
  | .rdReserved80 _ => false
  | .wrReserved68 _ _ => false
  | .wrReserved70 _ _ => false
  | .wrReserved80 _ _ => false
  | .cmdNop => false
  | .cmdPop => false
  | .cmdFlush => false
  | .cmdCrcClear => false
  | .cmdCrcFeed _ => false
  | .cmdCrcStop => false
  | .cmdRelease => false
  | .cmdGlitchClr => false
  | .cmdReset => false
  | .cmdReserved _ => false

/-- R247: a write to one of the six configuration registers. -/
def configWrite : Instr → Bool
  | .rdId => false
  | .wrId _ => false
  | .rdCtrl => false
  | .wrCtrl _ => false
  | .rdStatus => false
  | .wrStatus _ => false
  | .rdHthr => false
  | .wrHthr _ => true
  | .rdLthr => false
  | .wrLthr _ => true
  | .rdNbp => false
  | .wrNbp _ => true
  | .rdSpo => false
  | .wrSpo _ => true
  | .rdSjw => false
  | .wrSjw _ => true
  | .rdMgw => false
  | .wrMgw _ => true
  | .rdCrc => false
  | .wrCrc _ => false
  | .rdRxcrc => false
  | .wrRxcrc _ => false
  | .rdCrcdin => false
  | .wrCrcdin _ => false
  | .rdCmd => false
  | .wrCmd _ => false
  | .rdEvtHead => false
  | .wrEvtHead _ => false
  | .rdEvtAux => false
  | .wrEvtAux _ => false
  | .rdEvtTlo => false
  | .wrEvtTlo _ => false
  | .rdEvtThi => false
  | .wrEvtThi _ => false
  | .rdEvtCnt => false
  | .wrEvtCnt _ => false
  | .rdTimeLo => false
  | .wrTimeLo _ => false
  | .rdTimeHi => false
  | .wrTimeHi _ => false
  | .rdGlitchCnt => false
  | .wrGlitchCnt _ => false
  | .rdIrqen => false
  | .wrIrqen _ => false
  | .rdSample => false
  | .wrSample _ => false
  | .rdCrstate => false
  | .wrCrstate _ => false
  | .rdDsstate => false
  | .wrDsstate _ => false
  | .rdIdlecnt => false
  | .wrIdlecnt _ => false
  | .rdReserved68 _ => false
  | .rdReserved70 _ => false
  | .rdReserved80 _ => false
  | .wrReserved68 _ _ => false
  | .wrReserved70 _ _ => false
  | .wrReserved80 _ _ => false
  | .cmdNop => false
  | .cmdPop => false
  | .cmdFlush => false
  | .cmdCrcClear => false
  | .cmdCrcFeed _ => false
  | .cmdCrcStop => false
  | .cmdRelease => false
  | .cmdGlitchClr => false
  | .cmdReset => false
  | .cmdReserved _ => false

/-- R269: an access to a reserved offset. -/
def reservedAccess : Instr → Bool
  | .rdId => false
  | .wrId _ => false
  | .rdCtrl => false
  | .wrCtrl _ => false
  | .rdStatus => false
  | .wrStatus _ => false
  | .rdHthr => false
  | .wrHthr _ => false
  | .rdLthr => false
  | .wrLthr _ => false
  | .rdNbp => false
  | .wrNbp _ => false
  | .rdSpo => false
  | .wrSpo _ => false
  | .rdSjw => false
  | .wrSjw _ => false
  | .rdMgw => false
  | .wrMgw _ => false
  | .rdCrc => false
  | .wrCrc _ => false
  | .rdRxcrc => false
  | .wrRxcrc _ => false
  | .rdCrcdin => false
  | .wrCrcdin _ => false
  | .rdCmd => false
  | .wrCmd _ => false
  | .rdEvtHead => false
  | .wrEvtHead _ => false
  | .rdEvtAux => false
  | .wrEvtAux _ => false
  | .rdEvtTlo => false
  | .wrEvtTlo _ => false
  | .rdEvtThi => false
  | .wrEvtThi _ => false
  | .rdEvtCnt => false
  | .wrEvtCnt _ => false
  | .rdTimeLo => false
  | .wrTimeLo _ => false
  | .rdTimeHi => false
  | .wrTimeHi _ => false
  | .rdGlitchCnt => false
  | .wrGlitchCnt _ => false
  | .rdIrqen => false
  | .wrIrqen _ => false
  | .rdSample => false
  | .wrSample _ => false
  | .rdCrstate => false
  | .wrCrstate _ => false
  | .rdDsstate => false
  | .wrDsstate _ => false
  | .rdIdlecnt => false
  | .wrIdlecnt _ => false
  | .rdReserved68 _ => true
  | .rdReserved70 _ => true
  | .rdReserved80 _ => true
  | .wrReserved68 _ _ => true
  | .wrReserved70 _ _ => true
  | .wrReserved80 _ _ => true
  | .cmdNop => false
  | .cmdPop => false
  | .cmdFlush => false
  | .cmdCrcClear => false
  | .cmdCrcFeed _ => false
  | .cmdCrcStop => false
  | .cmdRelease => false
  | .cmdGlitchClr => false
  | .cmdReset => false
  | .cmdReserved _ => false

/-- The command an operation is: a `cmd` row, or the command a CMD write carries (R250). -/
def commandOf : Instr → Option Command
  | .rdId => none
  | .wrId _ => none
  | .rdCtrl => none
  | .wrCtrl _ => none
  | .rdStatus => none
  | .wrStatus _ => none
  | .rdHthr => none
  | .wrHthr _ => none
  | .rdLthr => none
  | .wrLthr _ => none
  | .rdNbp => none
  | .wrNbp _ => none
  | .rdSpo => none
  | .wrSpo _ => none
  | .rdSjw => none
  | .wrSjw _ => none
  | .rdMgw => none
  | .wrMgw _ => none
  | .rdCrc => none
  | .wrCrc _ => none
  | .rdRxcrc => none
  | .wrRxcrc _ => none
  | .rdCrcdin => none
  | .wrCrcdin _ => none
  | .rdCmd => none
  | .wrCmd v => some (decodeCommand v)
  | .rdEvtHead => none
  | .wrEvtHead _ => none
  | .rdEvtAux => none
  | .wrEvtAux _ => none
  | .rdEvtTlo => none
  | .wrEvtTlo _ => none
  | .rdEvtThi => none
  | .wrEvtThi _ => none
  | .rdEvtCnt => none
  | .wrEvtCnt _ => none
  | .rdTimeLo => none
  | .wrTimeLo _ => none
  | .rdTimeHi => none
  | .wrTimeHi _ => none
  | .rdGlitchCnt => none
  | .wrGlitchCnt _ => none
  | .rdIrqen => none
  | .wrIrqen _ => none
  | .rdSample => none
  | .wrSample _ => none
  | .rdCrstate => none
  | .wrCrstate _ => none
  | .rdDsstate => none
  | .wrDsstate _ => none
  | .rdIdlecnt => none
  | .wrIdlecnt _ => none
  | .rdReserved68 _ => none
  | .rdReserved70 _ => none
  | .rdReserved80 _ => none
  | .wrReserved68 _ _ => none
  | .wrReserved70 _ _ => none
  | .wrReserved80 _ _ => none
  | .cmdNop => some .nop
  | .cmdPop => some .pop
  | .cmdFlush => some .flush
  | .cmdCrcClear => some .crcClear
  | .cmdCrcFeed nm1 => some (.crcFeed nm1)
  | .cmdCrcStop => some .crcStop
  | .cmdRelease => some .release
  | .cmdGlitchClr => some .glitchClr
  | .cmdReset => some .reset
  | .cmdReserved v => some (.reserved v)

/-- A write of SAMPLE. -/
def sampleWrite : Instr → Bool
  | .rdId => false
  | .wrId _ => false
  | .rdCtrl => false
  | .wrCtrl _ => false
  | .rdStatus => false
  | .wrStatus _ => false
  | .rdHthr => false
  | .wrHthr _ => false
  | .rdLthr => false
  | .wrLthr _ => false
  | .rdNbp => false
  | .wrNbp _ => false
  | .rdSpo => false
  | .wrSpo _ => false
  | .rdSjw => false
  | .wrSjw _ => false
  | .rdMgw => false
  | .wrMgw _ => false
  | .rdCrc => false
  | .wrCrc _ => false
  | .rdRxcrc => false
  | .wrRxcrc _ => false
  | .rdCrcdin => false
  | .wrCrcdin _ => false
  | .rdCmd => false
  | .wrCmd _ => false
  | .rdEvtHead => false
  | .wrEvtHead _ => false
  | .rdEvtAux => false
  | .wrEvtAux _ => false
  | .rdEvtTlo => false
  | .wrEvtTlo _ => false
  | .rdEvtThi => false
  | .wrEvtThi _ => false
  | .rdEvtCnt => false
  | .wrEvtCnt _ => false
  | .rdTimeLo => false
  | .wrTimeLo _ => false
  | .rdTimeHi => false
  | .wrTimeHi _ => false
  | .rdGlitchCnt => false
  | .wrGlitchCnt _ => false
  | .rdIrqen => false
  | .wrIrqen _ => false
  | .rdSample => false
  | .wrSample _ => true
  | .rdCrstate => false
  | .wrCrstate _ => false
  | .rdDsstate => false
  | .wrDsstate _ => false
  | .rdIdlecnt => false
  | .wrIdlecnt _ => false
  | .rdReserved68 _ => false
  | .rdReserved70 _ => false
  | .rdReserved80 _ => false
  | .wrReserved68 _ _ => false
  | .wrReserved70 _ _ => false
  | .wrReserved80 _ _ => false
  | .cmdNop => false
  | .cmdPop => false
  | .cmdFlush => false
  | .cmdCrcClear => false
  | .cmdCrcFeed _ => false
  | .cmdCrcStop => false
  | .cmdRelease => false
  | .cmdGlitchClr => false
  | .cmdReset => false
  | .cmdReserved _ => false

/-- A write of CTRL. -/
def ctrlWrite : Instr → Bool
  | .rdId => false
  | .wrId _ => false
  | .rdCtrl => false
  | .wrCtrl _ => true
  | .rdStatus => false
  | .wrStatus _ => false
  | .rdHthr => false
  | .wrHthr _ => false
  | .rdLthr => false
  | .wrLthr _ => false
  | .rdNbp => false
  | .wrNbp _ => false
  | .rdSpo => false
  | .wrSpo _ => false
  | .rdSjw => false
  | .wrSjw _ => false
  | .rdMgw => false
  | .wrMgw _ => false
  | .rdCrc => false
  | .wrCrc _ => false
  | .rdRxcrc => false
  | .wrRxcrc _ => false
  | .rdCrcdin => false
  | .wrCrcdin _ => false
  | .rdCmd => false
  | .wrCmd _ => false
  | .rdEvtHead => false
  | .wrEvtHead _ => false
  | .rdEvtAux => false
  | .wrEvtAux _ => false
  | .rdEvtTlo => false
  | .wrEvtTlo _ => false
  | .rdEvtThi => false
  | .wrEvtThi _ => false
  | .rdEvtCnt => false
  | .wrEvtCnt _ => false
  | .rdTimeLo => false
  | .wrTimeLo _ => false
  | .rdTimeHi => false
  | .wrTimeHi _ => false
  | .rdGlitchCnt => false
  | .wrGlitchCnt _ => false
  | .rdIrqen => false
  | .wrIrqen _ => false
  | .rdSample => false
  | .wrSample _ => false
  | .rdCrstate => false
  | .wrCrstate _ => false
  | .rdDsstate => false
  | .wrDsstate _ => false
  | .rdIdlecnt => false
  | .wrIdlecnt _ => false
  | .rdReserved68 _ => false
  | .rdReserved70 _ => false
  | .rdReserved80 _ => false
  | .wrReserved68 _ _ => false
  | .wrReserved70 _ _ => false
  | .wrReserved80 _ _ => false
  | .cmdNop => false
  | .cmdPop => false
  | .cmdFlush => false
  | .cmdCrcClear => false
  | .cmdCrcFeed _ => false
  | .cmdCrcStop => false
  | .cmdRelease => false
  | .cmdGlitchClr => false
  | .cmdReset => false
  | .cmdReserved _ => false

end Sys2Proof.Safety
end

