-- ==== Sys2Proof/Certificates/Slice0/Obligations.lean ====
section
/-! DEFINITION. The statements for the provers. Each docstring names the rules of spec/ it formalises. Statements hold
for every state and every value of the parameters (`State.params`), of the host side and of the operands. -/

open Sys2Proof Sys2Proof.Machine Sys2Proof.Safety

/-! ## Encoding -/

/-- R82, R83: every MMIO key lies in exactly one row of the first-level table, and its decoded operation is that
row's. -/
def Obligations.EveryKeySelectsExactlyOneRow : Prop :=
  ∀ (key : BitVec 7) (v : Word),
    (keyRows.filter (fun r => r.covers (.mmio key v))).length = 1 ∧
    (decodeKey key v).row ∈ keyRows ∧ (decodeKey key v).row.covers (.mmio key v) = true

/-- R99, R100, R101: a CMD word lies in one command row or in none, and is decoded as reserved exactly in the second
case. -/
def Obligations.CommandWordsSelectOneCommandOrNone : Prop :=
  ∀ w : Word,
    (commandRows.filter (fun r => r.covers (.cmdWord w))).length = (if cmdWordDefined w then 1 else 0) ∧
    (cmdWordDefined w = false ↔ decodeCmd w = .cmdReserved w) ∧
    (decodeCmd w).row.covers (.cmdWord w) = true

/-- Decoding an encoded well-formed instruction gives it back: no operand bit of R83, R99, R100 is dropped. -/
def Obligations.DecodeInvertsEncode : Prop :=
  ∀ i : Instr, i.wf = true → decode (encode i) = i

/-- The other direction: an encoding decodes to a well-formed instruction that encodes to it again (a read shows a data
word of zeros). -/
def Obligations.EncodeInvertsDecode : Prop :=
  (∀ (key : BitVec 7) (v : Word), (decodeKey key v).wf = true ∧
    encode (decodeKey key v) = .mmio key (if key.getLsbD 6 then v else 0#32)) ∧
  (∀ w : Word, (decodeCmd w).wf = true ∧ encode (decodeCmd w) = .cmdWord w)

/-- Words written out from R83 and R100, one or more of every family, decode to the operation they stand for. -/
def Obligations.WrittenOutWordsDecode : Prop :=
  decode (.mmio 0b0000000#7 0#32) = .rdId ∧
  decode (.mmio 0b1000001#7 0x0B#32) = .wrCtrl 0x0B#32 ∧
  decode (.mmio 0b0000010#7 0#32) = .rdStatus ∧
  decode (.mmio 0b1000101#7 8#32) = .wrNbp 8#32 ∧
  decode (.mmio 0b0001010#7 0#32) = .rdRxcrc ∧
  decode (.mmio 0b0010001#7 0#32) = .rdEvtCnt ∧
  decode (.mmio 0b1010100#7 7#32) = .wrGlitchCnt 7#32 ∧
  decode (.mmio 0b1010110#7 0x00640064#32) = .wrSample 0x00640064#32 ∧
  decode (.mmio 0b0011000#7 0#32) = .rdDsstate ∧
  decode (.mmio 0b0011011#7 0#32) = .rdReserved68 0x6C#8 ∧
  decode (.mmio 0b1111111#7 1#32) = .wrReserved80 0xFC#8 1#32 ∧
  decode (.cmdWord 0x00001F04#32) = .cmdCrcFeed 31#5 ∧
  decode (.cmdWord 0x00000006#32) = .cmdRelease ∧
  decode (.cmdWord 0x00000109#32) = .cmdReserved 0x00000109#32

/-! ## A step -/

/-- R60, R80, R82: a legal access in the window performs, in one step, the operation its key `(W, OFF[7:2])` selects,
in the state in which the access has been taken from the host. -/
def Obligations.StepRunsTheDecodedOperation : Prop :=
  ∀ (s : State) (a : Access) (rest : List HostEvent) (off : BitVec 8),
    s.host.pending = .access a :: rest → a.addr = s.params.base + off.toNat → a.size = 4 → off.toNat % 4 = 0 →
    step s = exec (decodeKey (BitVec.ofNat 7 ((if a.write then 64 else 0) + off.toNat / 4)) a.data)
      { s with host := { s.host with pending := rest } }

/-- R62: an access of another width or at an unaligned offset sets ACC_ERR; a read returns 0; nothing else changes. -/
def Obligations.IllegalAccessOnlySetsAccErr : Prop :=
  ∀ (s : State) (a : Access) (rest : List HostEvent) (off : BitVec 8),
    s.host.pending = .access a :: rest → a.addr = s.params.base + off.toNat → (a.size ≠ 4 ∨ off.toNat % 4 ≠ 0) →
    step s = .next { s with
      sticky := s.sticky ||| 0b000000010#9
      host := { pending := rest
                returned := if a.write then s.host.returned else s.host.returned ++ [0#32] } }

/-- The model's choice (notes/assumptions/5.md, 7.md): a transaction outside the 256-byte window stops the model, and
with nothing pending the state stays as it is (R60, R64). -/
def Obligations.OutsideTheWindowStopsAndQuietStays : Prop :=
  ∀ s : State,
    (∀ a rest, s.host.pending = .access a :: rest → (a.addr < s.params.base ∨ s.params.base + 256 ≤ a.addr) →
      step s = .fault .outsideWindow) ∧
    (s.host.pending = [] → step s = .next s)

/-- R340, R259: hardware reset and the RESET command leave every element at the value R340 lists; then IRQ is 0, ID, STATUS
and DSSTATE read their listed words, and every other register reads 0. -/
def Obligations.ResetLeavesTheListedValues : Prop :=
  ∀ s : State,
    let after : HostPort → State := fun h =>
      { params := s.params
        ctrl := { en := false, single := false, inv := false, crcm := false, levev := false }
        cfg := { hthr := 0#32, lthr := 0#32, nbp := 0#16, spo := 0#16, sjw := 0#16, mgw := 0#8 }
        sticky := 0#9, crc := 0#15, rxcrc := 0#15, crcdin := 0#32, irqen := 0#10, glitchCnt := 0#32, time := 0#64
        evq := []
        cmp := { lvl := .recessive }
        gf := { runlv := .recessive, runlen := 0xFFFF#16, runstart := 0#64, rq := [], flt := .recessive }
        cr := { crm := .hunt, idlecnt := 0#16, ph := 0#16, blen := 0#16, smp := false, rsy := false, sofp := false }
        ds := { dsAct := false, cnt := 0#3, lv := .recessive, endp := false, didx := 0#16 }
        cc := { crcph := .idle, stopp := false, rxn := 0#4 }
        host := h }
    exec .cmdReset s = .next (after s.host) ∧
    (∀ rest, s.host.pending = .hardReset :: rest → step s = .next (after { s.host with pending := rest })) ∧
    (∀ h, (after h).irq = false) ∧
    (∀ (h : HostPort) (i : Instr), definedRead i = true →
      Returns i (after h)
        (if i = .rdId then 0x43414E31#32 else if i = .rdStatus then 0x00030000#32
          else if i = .rdDsstate then 0x00000008#32 else 0#32))

/-! ## Reads -/

/-- R240, R242, R249, R88 to R94: ID reads its constant, the write-only registers read 0, the plain registers read as
stored, narrower ones zero-extended. -/
def Obligations.PlainRegistersReadAsStored : Prop :=
  ∀ s : State,
    Returns .rdId s 0x43414E31#32 ∧ Returns .rdCmd s 0#32 ∧ Returns .rdSample s 0#32 ∧
    Returns .rdHthr s s.cfg.hthr ∧ Returns .rdLthr s s.cfg.lthr ∧
    Returns .rdNbp s (BitVec.ofNat 32 s.cfg.nbp.toNat) ∧ Returns .rdSpo s (BitVec.ofNat 32 s.cfg.spo.toNat) ∧
    Returns .rdSjw s (BitVec.ofNat 32 s.cfg.sjw.toNat) ∧ Returns .rdMgw s (BitVec.ofNat 32 s.cfg.mgw.toNat) ∧
    Returns .rdCrc s (BitVec.ofNat 32 s.crc.toNat) ∧ Returns .rdRxcrc s (BitVec.ofNat 32 s.rxcrc.toNat) ∧
    Returns .rdCrcdin s s.crcdin ∧ Returns .rdGlitchCnt s s.glitchCnt ∧
    Returns .rdIrqen s (BitVec.ofNat 32 s.irqen.toNat)

/-- R243: CTRL reads as its five fields at bits 0 to 4. -/
def Obligations.CtrlReadsItsFields : Prop :=
  ∀ s : State, Returns .rdCtrl s (BitVec.ofNat 32
    (s.ctrl.en.toNat + 2 * s.ctrl.single.toNat + 4 * s.ctrl.inv.toNat + 8 * s.ctrl.crcm.toNat +
      16 * s.ctrl.levev.toNat))

/-- R245, R86: STATUS reads as its sticky and live bits, every reserved bit 0. -/
def Obligations.StatusReadsStickyAndLiveBits : Prop :=
  ∀ s : State, ∃ w : Word, Returns .rdStatus s w ∧
    (∀ k, k < 9 → w.getLsbD k = s.sticky.getLsbD k) ∧
    w.getLsbD 16 = decide (s.cmp.lvl = .recessive) ∧ w.getLsbD 17 = decide (s.gf.flt = .recessive) ∧
    w.getLsbD 18 = decide (s.cr.crm = .sync) ∧ w.getLsbD 19 = s.ds.dsAct ∧
    w.getLsbD 20 = decide (s.cc.crcph = .cover) ∧ w.getLsbD 21 = decide (s.evq ≠ []) ∧
    (∀ k, 9 ≤ k ∧ k < 16 ∨ 22 ≤ k → w.getLsbD k = false)

/-- R263, R109, R264, R265: the EVT_* registers show the head record and leave it there, or read 0 when EVQ is empty;
EVT_CNT reads the length of EVQ, and TIME reads in two halves. That a length of 2^32 or more reads modulo 2^32 is the
model's choice (DESIGN CHOICE, notes/assumptions/14.md). -/
def Obligations.EventAndTimeRegistersRead : Prop :=
  ∀ s : State,
    (∀ r rest, s.evq = r :: rest →
      Returns .rdEvtHead s r.head ∧ Returns .rdEvtAux s r.aux ∧
      Returns .rdEvtTlo s (BitVec.ofNat 32 r.time.toNat) ∧
      Returns .rdEvtThi s (BitVec.ofNat 32 (r.time.toNat / 2 ^ 32))) ∧
    (s.evq = [] →
      Returns .rdEvtHead s 0#32 ∧ Returns .rdEvtAux s 0#32 ∧ Returns .rdEvtTlo s 0#32 ∧ Returns .rdEvtThi s 0#32) ∧
    Returns .rdEvtCnt s (BitVec.ofNat 32 s.evq.length) ∧
    Returns .rdTimeLo s (BitVec.ofNat 32 s.time.toNat) ∧
    Returns .rdTimeHi s (BitVec.ofNat 32 (s.time.toNat / 2 ^ 32))

/-- R267, R95 to R97: the debug registers show the internal state in their layouts. -/
def Obligations.DebugRegistersShowInternalState : Prop :=
  ∀ s : State,
    Returns .rdCrstate s (BitVec.ofNat 32 (s.cr.ph.toNat + 2 ^ 16 * s.cr.blen.toNat)) ∧
    Returns .rdIdlecnt s (BitVec.ofNat 32 s.cr.idlecnt.toNat) ∧
    ∃ w : Word, Returns .rdDsstate s w ∧
      w.extractLsb' 0 3 = s.ds.cnt ∧ w.getLsbD 3 = decide (s.ds.lv = .recessive) ∧ w.getLsbD 4 = s.ds.endp ∧
      w.getLsbD 5 = s.cc.stopp ∧ w.extractLsb' 6 2 = s.cc.crcph.code ∧ w.extractLsb' 8 4 = s.cc.rxn ∧
      w.getLsbD 12 = s.cr.sofp ∧ w.getLsbD 13 = s.cr.smp ∧ w.getLsbD 14 = s.cr.rsy ∧
      (∀ k, 15 ≤ k → w.getLsbD k = false)

/-- R64, R65: reads of defined registers change no state, so any read answers after any other read as it would have
before it. -/
def Obligations.ReadsDoNotDisturbReads : Prop :=
  ∀ (i j : Instr) (s : State), definedRead i = true → definedRead j = true →
    ∃ wi wj : Word, Returns i s wi ∧ Returns j s wj ∧ ∀ t, exec i s = .next t → Returns j t wj

/-! ## Register writes -/

/-- R241: a write to any of the fourteen read-only registers, whatever EN and the data, sets ACC_ERR and nothing
else. -/
def Obligations.ReadOnlyWritesOnlySetAccErr : Prop :=
  ∀ (i : Instr) (s : State), readOnlyWrite i = true →
    exec i s = .next { s with sticky := s.sticky ||| 0b000000010#9 }

/-- R269: a reserved offset reads 0, ignores writes, and sets ACC_ERR. -/
def Obligations.ReservedOffsetsOnlySetAccErr : Prop :=
  ∀ (s : State) (off : BitVec 8) (v : Word),
    let flagged : State := { s with sticky := s.sticky ||| 0b000000010#9 }
    let read : State := { flagged with host := { s.host with returned := s.host.returned ++ [0#32] } }
    exec (.rdReserved68 off) s = .next read ∧ exec (.rdReserved70 off) s = .next read ∧
    exec (.rdReserved80 off) s = .next read ∧
    exec (.wrReserved68 off v) s = .next flagged ∧ exec (.wrReserved70 off v) s = .next flagged ∧
    exec (.wrReserved80 off v) s = .next flagged

/-- R244, R342, R343, R344: while EN = 1 a CTRL write can only clear EN. While EN = 0 it stores the mode fields; with bit 0
set it enables the block and initialises the pipeline if the configuration is legal, and is refused with SETUP_ERR if
not. -/
def Obligations.CtrlWriteEnablesAndDisables : Prop :=
  ∀ (s : State) (v : Word),
    let stored : Bool → Ctrl := fun en =>
      { en := en, single := v.getLsbD 1, inv := v.getLsbD 2, crcm := v.getLsbD 3, levev := v.getLsbD 4 }
    let legal := s.cfg.lthr.toInt < s.cfg.hthr.toInt ∧ 1 ≤ s.cfg.nbp.toNat ∧ s.cfg.spo.toNat < s.cfg.nbp.toNat ∧
      s.cfg.sjw.toNat < s.cfg.nbp.toNat
    (s.ctrl.en = true → exec (.wrCtrl v) s = .next { s with ctrl := { s.ctrl with en := v.getLsbD 0 } }) ∧
    (s.ctrl.en = false → v.getLsbD 0 = false → exec (.wrCtrl v) s = .next { s with ctrl := stored false }) ∧
    (s.ctrl.en = false → v.getLsbD 0 = true → legal → exec (.wrCtrl v) s = .next { s with
      ctrl := stored true
      time := 0#64
      cmp := { lvl := .recessive }
      gf := { runlv := .recessive, runlen := 0xFFFF#16, runstart := 0#64, rq := [], flt := .recessive }
      cr := { crm := .hunt, idlecnt := 0#16, ph := 0#16, blen := 0#16, smp := false, rsy := false, sofp := false }
      ds := { dsAct := false, cnt := 0#3, lv := .recessive, endp := false, didx := 0#16 }
      cc := { crcph := .idle, stopp := false, rxn := 0#4 } }) ∧
    (s.ctrl.en = false → v.getLsbD 0 = true → ¬ legal → exec (.wrCtrl v) s = .next { s with
      ctrl := stored false
      sticky := s.sticky ||| 0b000000001#9 })

/-- R246: writing STATUS clears exactly the sticky bits written as 1. -/
def Obligations.StatusWriteOneToClear : Prop :=
  ∀ (s : State) (v : Word), ∃ x : BitVec 9,
    exec (.wrStatus v) s = .next { s with sticky := x } ∧
    ∀ k, k < 9 → x.getLsbD k = (s.sticky.getLsbD k && !v.getLsbD k)

/-- R247, R248, R266, R88 to R90, R93: the configuration registers take the word, its low 16 bits or its low 8 bits while
EN = 0, and are locked with ACC_ERR while EN = 1; CRCDIN and IRQEN are written whatever EN is. -/
def Obligations.ConfigurationWrites : Prop :=
  ∀ (s : State) (v : Word),
    (s.ctrl.en = false →
      exec (.wrHthr v) s = .next { s with cfg := { s.cfg with hthr := v } } ∧
      exec (.wrLthr v) s = .next { s with cfg := { s.cfg with lthr := v } } ∧
      exec (.wrNbp v) s = .next { s with cfg := { s.cfg with nbp := BitVec.ofNat 16 v.toNat } } ∧
      exec (.wrSpo v) s = .next { s with cfg := { s.cfg with spo := BitVec.ofNat 16 v.toNat } } ∧
      exec (.wrSjw v) s = .next { s with cfg := { s.cfg with sjw := BitVec.ofNat 16 v.toNat } } ∧
      exec (.wrMgw v) s = .next { s with cfg := { s.cfg with mgw := BitVec.ofNat 8 v.toNat } }) ∧
    (∀ i, configWrite i = true → s.ctrl.en = true →
      exec i s = .next { s with sticky := s.sticky ||| 0b000000010#9 }) ∧
    exec (.wrCrcdin v) s = .next { s with crcdin := v } ∧
    exec (.wrIrqen v) s = .next { s with irqen := BitVec.ofNat 10 v.toNat }

/-! ## Commands -/

/-- R250, R261, R99: a write of CMD does, within the write, what the command its word decodes to does. -/
def Obligations.CmdWriteRunsItsCommand : Prop :=
  ∀ (s : State) (v : Word), exec (.wrCmd v) s = exec (decodeCmd v) s ∧ ∃ t, exec (.wrCmd v) s = .next t

/-- R251 to R254, R258, R262: NOP, POP, FLUSH, CRC_CLEAR and GLITCH_CLR, whatever EN is; a reserved CMD word
sets CMD_ERR and changes nothing else. -/
def Obligations.SimpleCommands : Prop :=
  ∀ s : State,
    exec .cmdNop s = .next s ∧
    (s.evq = [] → exec .cmdPop s = .next s) ∧
    (∀ r rest, s.evq = r :: rest → exec .cmdPop s = .next { s with evq := rest }) ∧
    exec .cmdFlush s = .next { s with evq := [] } ∧
    exec .cmdCrcClear s = .next { s with crc := 0#15 } ∧
    exec .cmdGlitchClr s = .next { s with glitchCnt := 0#32 } ∧
    ∀ v, exec (.cmdReserved v) s = .next { s with sticky := s.sticky ||| 0b000000100#9 }

/-- R255, R220: CRC_FEED shifts the low N = NM1 + 1 bits of CRCDIN into CRC, most significant first, whatever EN and
the CRC phase are. -/
def Obligations.CrcFeedShiftsTheLowBits : Prop :=
  ∀ (s : State) (nm1 : BitVec 5),
    exec (.cmdCrcFeed nm1) s =
      .next { s with crc := (lowBits s.crcdin (nm1.toNat + 1)).foldl crcStep s.crc }

/-- R256: CRC_STOP sets STOPP in an open region under coverage, and CMD_ERR otherwise. -/
def Obligations.CrcStopNeedsACoveredFrame : Prop :=
  ∀ s : State,
    (s.ds.dsAct = true ∧ s.cc.crcph = .cover → exec .cmdCrcStop s = .next { s with cc := { s.cc with stopp := true } }) ∧
    (¬ (s.ds.dsAct = true ∧ s.cc.crcph = .cover) →
      exec .cmdCrcStop s = .next { s with sticky := s.sticky ||| 0b000000100#9 })

/-- R257: RELEASE in SYNC returns to HUNT and closes the region; in HUNT it does nothing. -/
def Obligations.ReleaseReturnsToHunt : Prop :=
  ∀ s : State,
    (s.cr.crm = .hunt → exec .cmdRelease s = .next s) ∧
    (s.cr.crm = .sync → exec .cmdRelease s = .next { s with
      cr := { crm := .hunt, idlecnt := s.cr.idlecnt, ph := 0#16, blen := 0#16, smp := false, rsy := false,
              sofp := false }
      ds := { dsAct := false, cnt := 0#3, lv := s.ds.lv, endp := false, didx := s.ds.didx }
      cc := { crcph := .idle, stopp := false, rxn := s.cc.rxn } })

/-! ## The event queue and the interrupt -/

/-- R311, R102, R107, R188: `emit` appends `(TYPE << 28 | data, aux, time)` at the tail, or drops the record with OVF when
EVQ is full; the flags of a BIT record stand at bits 0 to 6 of its data. -/
def Obligations.EmitAppendsOrSetsOvf : Prop :=
  (∀ (s : State) (ty : RecordType) (data : BitVec 28) (aux : Word) (t : Time),
    emit ty data aux t s =
      if s.evq.length = s.params.evqDepth then { s with sticky := s.sticky ||| 0b000001000#9 }
      else { s with evq := s.evq ++
        [{ head := BitVec.ofNat 32 (ty.code.toNat * 2 ^ 28 + data.toNat), aux := aux, time := t }] }) ∧
  (∀ f : BitFlags, bitData f = BitVec.ofNat 28
    (f.val.bit.toNat + 2 * f.stuff.toNat + 4 * f.serr.toNat + 8 * f.region.toNat + 16 * f.sof.toNat +
      32 * f.crcf.toNat + 64 * f.crcb.toNat))

/-- R314, R315: IRQ is high exactly when an enabled sticky bit is set, or EVNE is enabled and EVQ holds a record. -/
def Obligations.IrqFollowsEnabledSources : Prop :=
  ∀ s : State, s.irq = true ↔
    (∃ k, k < 9 ∧ s.sticky.getLsbD k = true ∧ s.irqen.getLsbD k = true) ∨
    (s.irqen.getLsbD 9 = true ∧ s.evq ≠ [])

/-! ## The sample tick -/

/-- R268: a SAMPLE write while EN = 0 is refused with ACC_ERR and TIME does not advance; while EN = 1 it is one tick, the
stages in their order. -/
def Obligations.SampleWriteIsOneTick : Prop :=
  ∀ (s : State) (v : Word),
    (s.ctrl.en = false → exec (.wrSample v) s = .next { s with sticky := s.sticky ||| 0b000000010#9 }) ∧
    (s.ctrl.en = true →
      let a := comparatorStep s.time v s
      let b := glitchDetect s.time a.cmp.lvl a
      let c := glitchFilter s.time a.cmp.lvl b
      exec (.wrSample v) s = .next { c with time := s.time + 1#64 })

/-- R268, R45, R64: what a tick leaves alone, and how it adds to TIME and to the sticky bits. -/
def Obligations.TickFrame : Prop :=
  ∀ (s t : State) (v : Word), s.ctrl.en = true → exec (.wrSample v) s = .next t →
    t.params = s.params ∧ t.ctrl = s.ctrl ∧ t.cfg = s.cfg ∧ t.crcdin = s.crcdin ∧ t.irqen = s.irqen ∧
    t.host = s.host ∧ t.time = s.time + 1#64 ∧
    (t.glitchCnt = s.glitchCnt ∨ t.glitchCnt.toNat = min (s.glitchCnt.toNat + 1) (2 ^ 32 - 1)) ∧
    (∀ k, s.sticky.getLsbD k = true → t.sticky.getLsbD k = true) ∧
    (∀ k, k < 3 → t.sticky.getLsbD k = s.sticky.getLsbD k)

/-- R268, R312, R104 to R108, R141: a tick appends at most one record of each type, in the order LEVEL, GLITCH, BIT, CRC, with
the times R371 derives from the rules: the tick's index, the run's start, and the filtered index `n − (W − 1)`. That this
index is taken modulo 2^64 is the model's reading of R366 (DEDUCED, notes/assumptions/11.md). -/
def Obligations.TickRecordsInOrder : Prop :=
  ∀ (s t : State) (v : Word), s.ctrl.en = true → exec (.wrSample v) s = .next t →
    ∃ new : List Record, t.evq = s.evq ++ new ∧
      new.Pairwise (fun a b => a.typeCode.toNat < b.typeCode.toNat) ∧
      ∀ r ∈ new,
        (r.typeCode = 1#4 ∧ r.time = s.time) ∨
        (r.typeCode = 2#4 ∧ r.time = s.gf.runstart) ∨
        ((r.typeCode = 3#4 ∨ r.typeCode = 4#4) ∧ r.time = s.time - BitVec.ofNat 64 (s.window - 1))

/-- R120 to R123: V is the exact integer of the two lanes and lies in [−65535, 65535]; the comparator decides the level with
hysteresis, emits a LEVEL record at a change if LEVEV = 1, and changes no other state. -/
def Obligations.ComparatorDecides : Prop :=
  ∀ (s : State) (n : Time) (v : Word),
    let h := (BitVec.ofNat 16 v.toNat).toInt
    let l := (BitVec.ofNat 16 (v.toNat / 2 ^ 16)).toInt
    let x := (if s.ctrl.inv then -1 else 1) * (if s.ctrl.single then h else h - l)
    let new : Level := if s.cfg.hthr.toInt < x then .dominant else if x < s.cfg.lthr.toInt then .recessive else s.cmp.lvl
    let decided : State := { s with cmp := { lvl := new } }
    sampleValue s.ctrl v = x ∧ -65535 ≤ x ∧ x ≤ 65535 ∧
    comparatorStep n v s =
      if s.ctrl.levev = true ∧ new ≠ s.cmp.lvl then emit .level (BitVec.ofNat 28 new.bit.toNat) 0#32 n decided
      else decided

/-- R125, which the spec derives from R121: no run of samples at or below HTHR leaves R, and none at or above LTHR leaves D. -/
def Obligations.HysteresisHolds : Prop :=
  ∀ (vs : List Word) (n : Time) (s : State),
    (s.cmp.lvl = .recessive → (∀ v ∈ vs, sampleValue s.ctrl v ≤ s.cfg.hthr.toInt) →
      (runComparator n vs s).cmp.lvl = .recessive) ∧
    (s.cmp.lvl = .dominant → (∀ v ∈ vs, s.cfg.lthr.toInt ≤ sampleValue s.ctrl v) →
      (runComparator n vs s).cmp.lvl = .dominant)

/-- R140: a run goes on, or ends; an ended run shorter than W is counted, flagged and recorded. -/
def Obligations.GlitchesAreCounted : Prop :=
  ∀ (s : State) (n : Time) (raw : Level),
    (raw = s.gf.runlv → glitchDetect n raw s =
      { s with gf := { s.gf with runlen := BitVec.ofNat 16 (min (s.gf.runlen.toNat + 1) 65535) } }) ∧
    (raw ≠ s.gf.runlv → max s.cfg.mgw.toNat 1 ≤ s.gf.runlen.toNat → glitchDetect n raw s =
      { s with gf := { s.gf with runlv := raw, runlen := 1#16, runstart := n } }) ∧
    (raw ≠ s.gf.runlv → s.gf.runlen.toNat < max s.cfg.mgw.toNat 1 → glitchDetect n raw s =
      emit .glitch (BitVec.ofNat 28 s.gf.runlv.bit.toNat) (BitVec.ofNat 32 s.gf.runlen.toNat) s.gf.runstart
        { s with
          gf := { s.gf with runlv := raw, runlen := 1#16, runstart := n }
          glitchCnt := BitVec.ofNat 32 (min (s.glitchCnt.toNat + 1) (2 ^ 32 - 1))
          sticky := s.sticky ||| 0b000010000#9 })

/-- R141: each raw level is queued; once W are queued, index `n − (W − 1)` is decided and clock recovery runs for it. Run from
an empty queue at level R, the filter holds the last decided level of the sequence F. -/
def Obligations.FilterDeliversTheFilteredSequence : Prop :=
  (∀ (n : Time) (raw : Level) (s : State),
    let w := max s.cfg.mgw.toNat 1
    let q := s.gf.rq ++ [raw]
    let first := q.head (by simp [q])
    let f : Level := if ∀ x ∈ q, x = first then first else s.gf.flt
    glitchFilter n raw s =
      if q.length = w then
        clockRecoveryStep (n - BitVec.ofNat 64 (w - 1)) f s.gf.flt { s with gf := { s.gf with rq := q.tail, flt := f } }
      else { s with gf := { s.gf with rq := q } }) ∧
  (∀ (raw : List Level) (n : Time) (s : State), s.gf.rq = [] → s.gf.flt = .recessive →
    (runFilter n raw s).gf.flt = filteredLevel raw s.window (raw.length - (s.window - 1)))

/-- R142: a raw run of at least W samples appears in the filtered sequence from its first index to its last, and a shorter
one does not: there the sequence keeps its level. -/
def Obligations.FilterKeepsLongRunsAndDropsShortOnes : Prop :=
  ∀ (a b : List Level) (x : Level) (k w j : Nat), 1 ≤ w → b.head? ≠ some x → j < k →
    let raw := a ++ List.replicate k x ++ b
    (w ≤ k → filteredLevel raw w (a.length + j + 1) = x) ∧
    (k < w → filteredLevel raw w (a.length + j + 1) = filteredLevel raw w a.length)

/-! ## Clock recovery -/

/-- R143, R144: in HUNT, a Recessive → Dominant edge after NBP recessive samples hard-syncs, and anything else changes no
timing; in SYNC the phase advances, a bit that is full ends, and the soft resync follows. Where PH is 65535, which no run
reaches, PH + 1 is taken modulo 2^16: that is the model's choice (DESIGN CHOICE, notes/assumptions/10.md). -/
def Obligations.HuntAndBitTiming : Prop :=
  ∀ (s : State) (f fp : Level),
    let edge := decide (fp = .recessive ∧ f = .dominant)
    (s.cr.crm = .hunt → edge = true → s.cfg.nbp.toNat ≤ s.cr.idlecnt.toNat →
      timingStep (isEdge f fp) s = { s with
        sticky := s.sticky ||| 0b100000000#9
        crc := 0#15
        rxcrc := 0#15
        cr := { crm := .sync, idlecnt := s.cr.idlecnt, ph := 0#16, blen := s.cfg.nbp, smp := false, rsy := false,
                sofp := true }
        ds := { dsAct := true, cnt := 0#3, lv := .recessive, endp := false, didx := 0#16 }
        cc := { crcph := .cover, stopp := false, rxn := 0#4 } }) ∧
    (s.cr.crm = .hunt → ¬ (edge = true ∧ s.cfg.nbp.toNat ≤ s.cr.idlecnt.toNat) →
      timingStep (isEdge f fp) s = s) ∧
    (s.cr.crm = .sync →
      let full := s.cr.ph + 1#16 = s.cr.blen
      let c : ClockRecovery := { s.cr with
        ph := if full then 0#16 else s.cr.ph + 1#16
        blen := if full then s.cfg.nbp else s.cr.blen
        smp := if full then false else s.cr.smp }
      timingStep (isEdge f fp) s = { s with cr := softResync s.cfg.nbp s.cfg.sjw edge c })

/-- R147 to R149, R152 item 1: a soft resync needs an edge away from the boundary with none since the last sampling; a late
edge moves the bit start later, an early one its end sooner, by min(error, SJW); the end of the bit moves by at most SJW
samples, and an edge that starts a new bit was at most SJW samples before it. -/
def Obligations.SoftResyncIsBounded : Prop :=
  ∀ (c : ClockRecovery) (nbp sjw : BitVec 16) (edge : Bool), c.ph.toNat < c.blen.toNat →
    let d := softResync nbp sjw edge c
    let qualified := edge = true ∧ c.ph ≠ 0#16 ∧ c.rsy = false
    let late := c.smp = false ∨ 2 * c.ph.toNat ≤ c.blen.toNat
    (¬ qualified → d = c) ∧
    (qualified → late →
      d = { c with ph := BitVec.ofNat 16 (c.ph.toNat - min c.ph.toNat sjw.toNat), rsy := true }) ∧
    (qualified → ¬ late → sjw.toNat < c.blen.toNat - c.ph.toNat →
      d = { c with blen := BitVec.ofNat 16 (c.blen.toNat - sjw.toNat), rsy := true }) ∧
    (qualified → ¬ late → c.blen.toNat - c.ph.toNat ≤ sjw.toNat →
      d = { c with ph := 0#16, blen := nbp, smp := false, rsy := true }) ∧
    ((d.blen.toNat - d.ph.toNat ≤ c.blen.toNat - c.ph.toNat + sjw.toNat ∧
        c.blen.toNat - c.ph.toNat ≤ d.blen.toNat - d.ph.toNat + sjw.toNat) ∨
      (d.ph = 0#16 ∧ c.blen.toNat - c.ph.toNat ≤ sjw.toNat))

/-- R145, R150: a step samples exactly when, its timing done, the bit is unsampled in SYNC at phase SPO; it then marks the
bit sampled and hands the filtered level with its index and the SOF mark to the destuffer. -/
def Obligations.SamplingAtTheSamplePoint : Prop :=
  ∀ (s : State) (t : Time) (f fp : Level),
    let a := timingStep (isEdge f fp) s
    let idle : BitVec 16 := if f = .recessive then BitVec.ofNat 16 (min (s.cr.idlecnt.toNat + 1) 65535) else 0#16
    (a.cr.crm = .sync ∧ a.cr.smp = false ∧ a.cr.ph = s.cfg.spo →
      let b := destuffBit t f a.cr.sofp { a with cr := { a.cr with smp := true, rsy := false, sofp := false } }
      clockRecoveryStep t f fp s = { b with cr := { b.cr with idlecnt := idle } }) ∧
    (¬ (a.cr.crm = .sync ∧ a.cr.smp = false ∧ a.cr.ph = s.cfg.spo) →
      clockRecoveryStep t f fp s = { a with cr := { a.cr with idlecnt := idle } })

/-- R152 item 2: two successive samplings of one SYNC period are NBP − SJW to NBP + SJW filtered samples apart. -/
def Obligations.SamplingsAreSpacedByTheBitPeriod : Prop :=
  ∀ (s : State) (t : Time) (held : Level) (fs : List Level) (k : Nat), Inv s → s.ctrl.en = true →
    samplingFlags t held fs s = true :: (List.replicate k false ++ [true]) →
    s.cfg.nbp.toNat ≤ (k + 1) + s.cfg.sjw.toNat ∧ k + 1 ≤ s.cfg.nbp.toNat + s.cfg.sjw.toNat

/-- R152 items 3 and 4: after a hard sync at index e with no further Recessive → Dominant edge, exactly the indices
e + SPO, e + SPO + NBP, e + SPO + 2·NBP, … are sampled. -/
def Obligations.UndisturbedSamplingIsPeriodic : Prop :=
  ∀ (s : State) (t : Time) (m k i : Nat), configOk s.cfg = true → s.cr.crm = .hunt →
    s.cfg.nbp.toNat ≤ s.cr.idlecnt.toNat → i < 1 + m + k →
    (samplingFlags t .recessive (.dominant :: (List.replicate m .dominant ++ List.replicate k .recessive)) s)[i]? =
      some (decide (s.cfg.spo.toNat ≤ i ∧ (i - s.cfg.spo.toNat) % s.cfg.nbp.toNat = 0))

/-! ## Destuffer -/

/-- R182 to R184: run counting, stuff bits and violations. -/
def Obligations.RunsAreCounted : Prop :=
  ∀ (cnt : BitVec 3) (lv b : Level),
    (cnt.toNat < 5 → classifyBit cnt lv b =
      if 0 < cnt.toNat ∧ b = lv then
        { data := true, stuff := false, serr := false, cnt := BitVec.ofNat 3 (cnt.toNat + 1), lv := b }
      else { data := true, stuff := false, serr := false, cnt := 1#3, lv := b }) ∧
    (cnt.toNat = 5 → classifyBit cnt lv b =
      if b = lv then { data := true, stuff := false, serr := true, cnt := 1#3, lv := b }
      else { data := false, stuff := true, serr := false, cnt := 1#3, lv := b })

/-- R183, R193: the 6th identical bit in the region sets STUFF_ERR, is recorded as a data bit with SERR and restarts the
run. -/
def Obligations.SixthIdenticalBitIsAViolation : Prop :=
  ∀ (s : State) (t : Time) (b : Level) (sof : Bool),
    s.ds.dsAct = true → s.ds.cnt = 5#3 → b = s.ds.lv →
    let u := destuffBit t b sof s
    u.sticky.getLsbD 5 = true ∧ u.ds.cnt = 1#3 ∧
    (s.evq.length < s.params.evqDepth →
      ∃ r rest, u.evq = s.evq ++ r :: rest ∧ r.typeCode = 3#4 ∧ r.bitSerr = true ∧ r.bitStuff = false ∧
        r.bitVal = b ∧ r.aux = BitVec.ofNat 32 s.ds.didx.toNat ∧ r.time = t)

/-- R181, R183, R185 to R188, R214: a bit outside the region is recorded with every flag 0 and changes no state. Inside it,
the run is stored and a violation flagged, the CRC engine is called, DIDX counts the data bits, saturating, the region closes
after the bit when its end is requested and no stuff bit is due, and the BIT record, then the CRC record if there is one,
are queued, as far as EVQ has room, with OVF for one dropped. CRC, RXCRC, the CRC control and the sticky bits (but OVF) are
those the CRC engine leaves; nothing else changes. -/
def Obligations.RegionBitsAreRecorded : Prop :=
  ∀ (s : State) (t : Time) (b : Level) (sof : Bool),
    (s.ds.dsAct = false → destuffBit t b sof s = emit .bit (BitVec.ofNat 28 b.bit.toNat) 0#32 t s) ∧
    (s.ds.dsAct = true →
      let c := classifyBit s.ds.cnt s.ds.lv b
      let classified : State := { s with
        sticky := if c.serr then s.sticky ||| 0b000100000#9 else s.sticky
        ds := { s.ds with cnt := c.cnt, lv := c.lv } }
      let r := crcBit b c.data c.stuff classified
      let closes := r.st.ds.endp && decide (c.cnt.toNat < 5)
      let new : List Record :=
        { head := BitVec.ofNat 32 (0x30000000 + b.bit.toNat + 2 * c.stuff.toNat + 4 * c.serr.toNat + 8 +
            16 * sof.toNat + 32 * r.crcf.toNat + 64 * r.crcb.toNat)
          aux := BitVec.ofNat 32 s.ds.didx.toNat
          time := t } ::
        (match r.record with
          | none => []
          | some (data, aux) => [{ head := BitVec.ofNat 32 (0x40000000 + data.toNat), aux := aux, time := t }])
      let u := destuffBit t b sof s
      u = { s with
        crc := r.st.crc
        rxcrc := r.st.rxcrc
        cc := r.st.cc
        ds := { dsAct := !closes
                cnt := c.cnt
                lv := c.lv
                endp := r.st.ds.endp && !closes
                didx := if c.data then BitVec.ofNat 16 (min (s.ds.didx.toNat + 1) 65535) else s.ds.didx }
        sticky := u.sticky
        evq := u.evq } ∧
      (u.sticky = r.st.sticky ∨ u.sticky = r.st.sticky ||| 0b000001000#9) ∧
      (s.evq.length ≤ s.params.evqDepth →
        u.evq = (s.evq ++ new).take s.params.evqDepth ∧
        u.sticky = if s.params.evqDepth < s.evq.length + new.length then r.st.sticky ||| 0b000001000#9
          else r.st.sticky))

/-- R192: what a valid transmitter stuffs, the destuffer takes out again: fed `stuff(bits)` from an opened region whose CRC
field does not end inside it, the BIT records carry the sent bits in order with exactly the inserted ones marked STUFF,
those not marked are `bits`, and no violation is seen. -/
def Obligations.StuffingRoundTrip : Prop :=
  ∀ (bits : List Level) (s : State) (t : Time),
    s.ds.dsAct = true → s.ds.cnt = 0#3 → s.ds.endp = false →
    (s.cc.crcph = .recv ∨ (s.cc.crcph = .cover ∧ s.cc.stopp = true) → s.cc.rxn.toNat + bits.length < 15) →
    s.evq.length + (stuff bits).length ≤ s.params.evqDepth →
    let u := runDestuffer t (stuff bits) true s
    ∃ new : List Record, u.evq = s.evq ++ new ∧
      new.map (fun r => (r.bitVal, r.bitStuff)) = stuffMarked bits ∧
      (new.filter (fun r => !r.bitStuff)).map Record.bitVal = bits ∧
      (∀ r ∈ new, r.bitSerr = false) ∧
      u.sticky.getLsbD 5 = s.sticky.getLsbD 5

/-! ## CRC -/

/-- R211: the shift, and what it computes: after the bits of `s`, fed from 0, the register holds the remainder of the
message times x^15 divided by G over GF(2). -/
def Obligations.CrcIsThePolynomialRemainder : Prop :=
  (∀ (c : BitVec 15) (b : Bool),
    crcStep c b = BitVec.ofNat 15 ((2 * c.toNat) ^^^ (if b = c.getLsbD 14 then 0 else 0x4599))) ∧
  ∀ s : List Bool, ∃ q : Polynomial (ZMod 2),
    (∑ i ∈ Finset.range s.length, (if s[i]? = some true then Polynomial.X ^ (s.length - 1 - i + 15) else 0)) =
      q * (Polynomial.X ^ 15 + Polynomial.X ^ 14 + Polynomial.X ^ 10 + Polynomial.X ^ 8 + Polynomial.X ^ 7 +
        Polynomial.X ^ 4 + Polynomial.X ^ 3 + 1) +
      ∑ i ∈ Finset.range 15, (if (crc15 s).getLsbD i then Polynomial.X ^ i else 0)

/-- R224 items 1, 2 and 4: the CRC is linear over lists of equal length, leading zeros do not change it, and a stream that
ends with its own CRC leaves the register at 0. -/
def Obligations.CrcIsLinearWithZeroResidue : Prop :=
  (∀ a b : List Bool, a.length = b.length → crc15 (List.zipWith xor a b) = crc15 a ^^^ crc15 b) ∧
  (∀ (k : Nat) (s : List Bool), crc15 (List.replicate k false ++ s) = crc15 s) ∧
  (∀ s : List Bool, crc15 (s ++ bits15 (crc15 s)) = 0#15)

/-- R224 item 3: two lists of equal length that differ in exactly one bit have different CRCs. -/
def Obligations.CrcDetectsASingleFlippedBit : Prop :=
  ∀ (a b : List Bool) (x : Bool), crc15 (a ++ x :: b) ≠ crc15 (a ++ (!x) :: b)

/-- R213, R214, R218: which bits are fed and captured. COVER feeds data bits, and stuff bits too in mode CRCM = 0; the
first data bit after CRC_STOP is captured and not fed; a stuff bit in RECV and any bit in IDLE or DONE has no effect. -/
def Obligations.CoverageFollowsTheMode : Prop :=
  ∀ (s : State) (b : Level) (data stuff : Bool), data = !stuff →
    (s.cc.crcph = .cover → ¬ (s.cc.stopp = true ∧ data = true) →
      let fed := data || (stuff && !s.ctrl.crcm)
      crcBit b data stuff s = { crcf := fed, crcb := false, record := none,
                                st := { s with crc := if fed then crcStep s.crc b.bit else s.crc } }) ∧
    (s.cc.crcph = .cover → s.cc.stopp = true → data = true →
      crcBit b data stuff s =
        crcBit b data stuff { s with cc := { s.cc with crcph := .recv, stopp := false } }) ∧
    ((s.cc.crcph = .recv ∧ data = false ∨ s.cc.crcph = .idle ∨ s.cc.crcph = .done) →
      crcBit b data stuff s = { crcf := false, crcb := false, record := none, st := s })

/-- R216, R217: a captured bit is shifted into RXCRC; the 15th is compared with CRC, sets CRC_ERR or CRC_OK, makes the CRC
record, ends the capture and requests the region's end. Where RXN is 15 in RECV, which no run reaches, RXN + 1 is taken
modulo 16: that is the model's choice (DESIGN CHOICE, notes/assumptions/10.md). -/
def Obligations.CaptureAndCompare : Prop :=
  ∀ (s : State) (b : Level), s.cc.crcph = .recv →
    let rx : BitVec 15 := BitVec.ofNat 15 (2 * s.rxcrc.toNat + b.bit.toNat)
    let captured : State := { s with rxcrc := rx, cc := { s.cc with rxn := s.cc.rxn + 1#4 } }
    (s.cc.rxn ≠ 14#4 →
      crcBit b true false s = { crcf := false, crcb := true, record := none, st := captured }) ∧
    (s.cc.rxn = 14#4 →
      crcBit b true false s =
        { crcf := false
          crcb := true
          record := some (BitVec.ofNat 28 (s.crc.toNat + if rx = s.crc then 0 else 2 ^ 15), BitVec.ofNat 32 rx.toNat)
          st := { captured with
            sticky := s.sticky ||| (if rx = s.crc then 0b010000000#9 else 0b001000000#9)
            cc := { crcph := .done, stopp := s.cc.stopp, rxn := 15#4 }
            ds := { s.ds with endp := true } } })

/-- R221 items 1 and 2: from a hard sync on, as long as no CRC_STOP is given, the register holds the CRC of the data bits
(CRCM = 1) or of all bits as sampled (CRCM = 0). -/
def Obligations.CrcCoversTheFrame : Prop :=
  ∀ (w : List Level) (s : State) (t : Time),
    s.ds.dsAct = true → s.ds.cnt = 0#3 → s.ds.endp = false → s.cc.crcph = .cover → s.cc.stopp = false →
    s.crc = 0#15 →
    (runDestuffer t w true s).crc =
      crc15 ((if s.ctrl.crcm then dataBits (classifyRun 0#3 s.ds.lv w) else w).map Level.bit)

/-! ## Whole-machine rules -/

/-- The invariants of R46 hold at reset, whatever the parameters. -/
def Obligations.InvariantHoldsAtReset : Prop :=
  ∀ (p : Config.Params) (h : HostPort), Inv (State.resetWith p h)

/-- Every step keeps the invariants of R46 (in the form of Safety.Inv, notes/assumptions/12.md), from every state that
meets them. -/
def Obligations.EveryStepKeepsTheInvariant : Prop :=
  ∀ s t : State, Inv s → step s = .next t → Inv t

/-- R46 word for word is NOT kept: its bounds on the filter queue and on BLEN fail in a reachable state, since a disabled
block keeps its frozen pipeline (R344) while MGW and NBP can be rewritten (R247). -/
def Obligations.InvariantsAsWordedOfEveryReachableState : Prop :=
  ∀ s : State, Reachable s → AsWorded s

/-- R64, R69: a step takes the oldest event of the host and no other, returns at most one value, and never changes the
parameters; it stops only at an access outside the window (R302, R317: no operation halts the block). -/
def Obligations.EachStepPerformsOneEvent : Prop :=
  ∀ s : State,
    (∀ t, step s = .next t →
      t.params = s.params ∧ t.host.pending = s.host.pending.tail ∧
      ∃ l : List Word, l.length ≤ 1 ∧ t.host.returned = s.host.returned ++ l) ∧
    ((∀ t, step s ≠ .next t) →
      ∃ a rest, s.host.pending = .access a :: rest ∧ (a.addr < s.params.base ∨ s.params.base + 256 ≤ a.addr))

/-- R45: while EN = 1, the six configuration registers and the four mode fields change by no operation but reset. -/
def Obligations.ConfigurationIsFrozenWhileEnabled : Prop :=
  ∀ (i : Instr) (s t : State), s.ctrl.en = true → exec i s = .next t → commandOf i ≠ some .reset →
    t.cfg = s.cfg ∧ t.ctrl.single = s.ctrl.single ∧ t.ctrl.inv = s.ctrl.inv ∧ t.ctrl.crcm = s.ctrl.crcm ∧
    t.ctrl.levev = s.ctrl.levev

/-- R22, R87: each sticky bit is set only by its own operations, in the state its rule asks for (R342, R241, R247, R268, R269,
R250, R256, R262, R311, R140, R183, R217, R143), and cleared only by a write of 1 to it or by reset. A tick that drops a
record ends with EVQ full; its raw level is the comparator's new level, and its filtered edge lies between FLT before and
after. -/
def Obligations.StickyBitsChangeOnlyByTheirRules : Prop :=
  ∀ (i : Instr) (s t : State), exec i s = .next t →
    (∀ b : Sticky, s.hasSticky b = false → t.hasSticky b = true →
      match b with
      | .setupErr => ∃ v, i = .wrCtrl v ∧ v.getLsbD 0 = true ∧ s.ctrl.en = false ∧ configOk s.cfg = false
      | .accErr =>
        readOnlyWrite i = true ∨ reservedAccess i = true ∨ (configWrite i = true ∧ s.ctrl.en = true) ∨
          (sampleWrite i = true ∧ s.ctrl.en = false)
      | .cmdErr =>
        (commandOf i = some .crcStop ∧ ¬ (s.ds.dsAct = true ∧ s.cc.crcph = .cover)) ∨
          ∃ v, commandOf i = some (.reserved v)
      | .ovf => sampleWrite i = true ∧ s.ctrl.en = true ∧ t.evq.length = s.params.evqDepth
      | .glitch =>
        sampleWrite i = true ∧ s.ctrl.en = true ∧ t.cmp.lvl ≠ s.gf.runlv ∧ s.gf.runlen.toNat < max s.cfg.mgw.toNat 1
      | .stuffErr =>
        sampleWrite i = true ∧ s.ctrl.en = true ∧ s.cr.crm = .sync ∧ s.ds.dsAct = true ∧ s.ds.cnt = 5#3
      | .crcErr => sampleWrite i = true ∧ s.ctrl.en = true ∧ comparisonDue s ∧ t.rxcrc ≠ t.crc
      | .crcOk => sampleWrite i = true ∧ s.ctrl.en = true ∧ comparisonDue s ∧ t.rxcrc = t.crc
      | .sof =>
        sampleWrite i = true ∧ s.ctrl.en = true ∧ s.cr.crm = .hunt ∧ s.cfg.nbp.toNat ≤ s.cr.idlecnt.toNat ∧
          s.gf.flt = .recessive ∧ t.gf.flt = .dominant) ∧
    (∀ b : Sticky, s.hasSticky b = true → t.hasSticky b = false →
      commandOf i = some .reset ∨ ∃ v, i = .wrStatus v ∧ v.getLsbD b.index = true)

/-- R36, R151: TIME changes only by an accepted sample (by 1), an accepted enable or reset (to 0); SYNC is left only by
RELEASE, an accepted enable or reset. -/
def Obligations.TimeAndSyncChangeOnlyByTheirRules : Prop :=
  ∀ (i : Instr) (s t : State), exec i s = .next t →
    (t.time = s.time ∨ (sampleWrite i = true ∧ s.ctrl.en = true ∧ t.time = s.time + 1#64) ∨
      (t.time = 0#64 ∧ (commandOf i = some .reset ∨
        (ctrlWrite i = true ∧ s.ctrl.en = false ∧ t.ctrl.en = true)))) ∧
    (s.cr.crm = .sync → t.cr.crm = .hunt →
      commandOf i = some .release ∨ commandOf i = some .reset ∨
        (ctrlWrite i = true ∧ s.ctrl.en = false ∧ t.ctrl.en = true))

/-- R310, R37: records leave EVQ only at the head by POP or all at once by FLUSH or reset, and enter only at the tail in an
accepted sample. -/
def Obligations.QueueIsFirstInFirstOut : Prop :=
  ∀ (i : Instr) (s t : State), exec i s = .next t →
    (t.evq = s.evq) ∨ (commandOf i = some .pop ∧ t.evq = s.evq.tail) ∨
    ((commandOf i = some .flush ∨ commandOf i = some .reset) ∧ t.evq = []) ∨
    (sampleWrite i = true ∧ s.ctrl.en = true ∧ s.evq <+: t.evq)

/-- R344, R260, R325: while EN = 0 the pipeline is frozen: only an accepted enable, reset, RELEASE and CRC_STOP change any of
it, the last two only clock recovery, the destuffer and the CRC control. -/
def Obligations.DisabledPipelineIsFrozen : Prop :=
  ∀ (i : Instr) (s t : State), s.ctrl.en = false → exec i s = .next t → t.ctrl.en = false →
    commandOf i ≠ some .reset →
    t.cmp = s.cmp ∧ t.gf = s.gf ∧ t.time = s.time ∧
    (t.cr = s.cr ∧ t.ds = s.ds ∧ t.cc = s.cc ∨ commandOf i = some .release ∨ commandOf i = some .crcStop)

/-- R111: the expansions: `sample h, l` delivers exactly `h` and `l`, `cmd CRC_FEED, n` feeds `n` bits, and operands outside
their ranges are refused. -/
def Obligations.AssemblyExpandsExactly : Prop :=
  (∀ (base : Nat) (h l : Int), -32768 ≤ h → h ≤ 32767 → -32768 ≤ l → l ≤ 32767 →
    ∃ w : Word, (HostLine.sample h l).expand base = some [{ write := true, addr := base + 0x58, size := 4, data := w }] ∧
      sampleH w = h ∧ sampleL w = l) ∧
  (∀ (base n : Nat), 1 ≤ n → n ≤ 32 →
    ∃ w : Word, (HostLine.cmdCrcFeed n).expand base = some [{ write := true, addr := base + 0x30, size := 4, data := w }] ∧
      decodeCommand w = .crcFeed (BitVec.ofNat 5 (n - 1))) ∧
  (∀ (base : Nat) (h l : Int), ¬ (-32768 ≤ h ∧ h ≤ 32767 ∧ -32768 ≤ l ∧ l ≤ 32767) →
    (HostLine.sample h l).expand base = none) ∧
  (∀ (base n : Nat), ¬ (1 ≤ n ∧ n ≤ 32) → (HostLine.cmdCrcFeed n).expand base = none)
end

