-- ==== Sys2Proof/Laws/PerInstr.lean ====
section
/-! SUPPORT. Statements about every instruction as syntax, one lemma per constructor. -/

namespace Sys2Proof.Laws

/-- Family RowMatch: the encoding of a well-formed instruction lies in the instruction's row of spec/opcode_table.json
(R83, R100). -/
def RowMatch.Statement (i : Instr) : Prop := i.wf = true → i.row.covers (encode i) = true

theorem RowMatch.rdId : RowMatch.Statement .rdId := fun _ => rfl

theorem RowMatch.wrId (v : Word) : RowMatch.Statement (.wrId v) := fun _ => rfl

theorem RowMatch.rdCtrl : RowMatch.Statement .rdCtrl := fun _ => rfl

theorem RowMatch.wrCtrl (v : Word) : RowMatch.Statement (.wrCtrl v) := fun _ => rfl

theorem RowMatch.rdStatus : RowMatch.Statement .rdStatus := fun _ => rfl

theorem RowMatch.wrStatus (v : Word) : RowMatch.Statement (.wrStatus v) := fun _ => rfl

theorem RowMatch.rdHthr : RowMatch.Statement .rdHthr := fun _ => rfl

theorem RowMatch.wrHthr (v : Word) : RowMatch.Statement (.wrHthr v) := fun _ => rfl

theorem RowMatch.rdLthr : RowMatch.Statement .rdLthr := fun _ => rfl

theorem RowMatch.wrLthr (v : Word) : RowMatch.Statement (.wrLthr v) := fun _ => rfl

theorem RowMatch.rdNbp : RowMatch.Statement .rdNbp := fun _ => rfl

theorem RowMatch.wrNbp (v : Word) : RowMatch.Statement (.wrNbp v) := fun _ => rfl

theorem RowMatch.rdSpo : RowMatch.Statement .rdSpo := fun _ => rfl

theorem RowMatch.wrSpo (v : Word) : RowMatch.Statement (.wrSpo v) := fun _ => rfl

theorem RowMatch.rdSjw : RowMatch.Statement .rdSjw := fun _ => rfl

theorem RowMatch.wrSjw (v : Word) : RowMatch.Statement (.wrSjw v) := fun _ => rfl

theorem RowMatch.rdMgw : RowMatch.Statement .rdMgw := fun _ => rfl

theorem RowMatch.wrMgw (v : Word) : RowMatch.Statement (.wrMgw v) := fun _ => rfl

theorem RowMatch.rdCrc : RowMatch.Statement .rdCrc := fun _ => rfl

theorem RowMatch.wrCrc (v : Word) : RowMatch.Statement (.wrCrc v) := fun _ => rfl

theorem RowMatch.rdRxcrc : RowMatch.Statement .rdRxcrc := fun _ => rfl

theorem RowMatch.wrRxcrc (v : Word) : RowMatch.Statement (.wrRxcrc v) := fun _ => rfl

theorem RowMatch.rdCrcdin : RowMatch.Statement .rdCrcdin := fun _ => rfl

theorem RowMatch.wrCrcdin (v : Word) : RowMatch.Statement (.wrCrcdin v) := fun _ => rfl

theorem RowMatch.rdCmd : RowMatch.Statement .rdCmd := fun _ => rfl

theorem RowMatch.wrCmd (v : Word) : RowMatch.Statement (.wrCmd v) := fun _ => rfl

theorem RowMatch.rdEvtHead : RowMatch.Statement .rdEvtHead := fun _ => rfl

theorem RowMatch.wrEvtHead (v : Word) : RowMatch.Statement (.wrEvtHead v) := fun _ => rfl

theorem RowMatch.rdEvtAux : RowMatch.Statement .rdEvtAux := fun _ => rfl

theorem RowMatch.wrEvtAux (v : Word) : RowMatch.Statement (.wrEvtAux v) := fun _ => rfl

theorem RowMatch.rdEvtTlo : RowMatch.Statement .rdEvtTlo := fun _ => rfl

theorem RowMatch.wrEvtTlo (v : Word) : RowMatch.Statement (.wrEvtTlo v) := fun _ => rfl

theorem RowMatch.rdEvtThi : RowMatch.Statement .rdEvtThi := fun _ => rfl

theorem RowMatch.wrEvtThi (v : Word) : RowMatch.Statement (.wrEvtThi v) := fun _ => rfl

theorem RowMatch.rdEvtCnt : RowMatch.Statement .rdEvtCnt := fun _ => rfl

theorem RowMatch.wrEvtCnt (v : Word) : RowMatch.Statement (.wrEvtCnt v) := fun _ => rfl

theorem RowMatch.rdTimeLo : RowMatch.Statement .rdTimeLo := fun _ => rfl

theorem RowMatch.wrTimeLo (v : Word) : RowMatch.Statement (.wrTimeLo v) := fun _ => rfl

theorem RowMatch.rdTimeHi : RowMatch.Statement .rdTimeHi := fun _ => rfl

theorem RowMatch.wrTimeHi (v : Word) : RowMatch.Statement (.wrTimeHi v) := fun _ => rfl

theorem RowMatch.rdGlitchCnt : RowMatch.Statement .rdGlitchCnt := fun _ => rfl

theorem RowMatch.wrGlitchCnt (v : Word) : RowMatch.Statement (.wrGlitchCnt v) := fun _ => rfl

theorem RowMatch.rdIrqen : RowMatch.Statement .rdIrqen := fun _ => rfl

theorem RowMatch.wrIrqen (v : Word) : RowMatch.Statement (.wrIrqen v) := fun _ => rfl

theorem RowMatch.rdSample : RowMatch.Statement .rdSample := fun _ => rfl

theorem RowMatch.wrSample (v : Word) : RowMatch.Statement (.wrSample v) := fun _ => rfl

theorem RowMatch.rdCrstate : RowMatch.Statement .rdCrstate := fun _ => rfl

theorem RowMatch.wrCrstate (v : Word) : RowMatch.Statement (.wrCrstate v) := fun _ => rfl

theorem RowMatch.rdDsstate : RowMatch.Statement .rdDsstate := fun _ => rfl

theorem RowMatch.wrDsstate (v : Word) : RowMatch.Statement (.wrDsstate v) := fun _ => rfl

theorem RowMatch.rdIdlecnt : RowMatch.Statement .rdIdlecnt := fun _ => rfl

theorem RowMatch.wrIdlecnt (v : Word) : RowMatch.Statement (.wrIdlecnt v) := fun _ => rfl

theorem RowMatch.rdReserved68 (off : BitVec 8) : RowMatch.Statement (.rdReserved68 off) := fun h =>
  (by decide : ∀ off : BitVec 8, reservedOffset 0x68 0x6C off = true →
    ((reservedKey false off &&& 0x7E#7) == 0x1A#7) = true) off h

theorem RowMatch.rdReserved70 (off : BitVec 8) : RowMatch.Statement (.rdReserved70 off) := fun h =>
  (by decide : ∀ off : BitVec 8, reservedOffset 0x70 0x7C off = true →
    ((reservedKey false off &&& 0x7C#7) == 0x1C#7) = true) off h

theorem RowMatch.rdReserved80 (off : BitVec 8) : RowMatch.Statement (.rdReserved80 off) := fun h =>
  (by decide : ∀ off : BitVec 8, reservedOffset 0x80 0xFC off = true →
    ((reservedKey false off &&& 0x60#7) == 0x20#7) = true) off h

theorem RowMatch.wrReserved68 (off : BitVec 8) (v : Word) : RowMatch.Statement (.wrReserved68 off v) := fun h =>
  (by decide : ∀ off : BitVec 8, reservedOffset 0x68 0x6C off = true →
    ((reservedKey true off &&& 0x7E#7) == 0x5A#7) = true) off h

theorem RowMatch.wrReserved70 (off : BitVec 8) (v : Word) : RowMatch.Statement (.wrReserved70 off v) := fun h =>
  (by decide : ∀ off : BitVec 8, reservedOffset 0x70 0x7C off = true →
    ((reservedKey true off &&& 0x7C#7) == 0x5C#7) = true) off h

theorem RowMatch.wrReserved80 (off : BitVec 8) (v : Word) : RowMatch.Statement (.wrReserved80 off v) := fun h =>
  (by decide : ∀ off : BitVec 8, reservedOffset 0x80 0xFC off = true →
    ((reservedKey true off &&& 0x60#7) == 0x60#7) = true) off h

theorem RowMatch.cmdNop : RowMatch.Statement .cmdNop := fun _ => rfl

theorem RowMatch.cmdPop : RowMatch.Statement .cmdPop := fun _ => rfl

theorem RowMatch.cmdFlush : RowMatch.Statement .cmdFlush := fun _ => rfl

theorem RowMatch.cmdCrcClear : RowMatch.Statement .cmdCrcClear := fun _ => rfl

theorem RowMatch.cmdCrcFeed (nm1 : BitVec 5) : RowMatch.Statement (.cmdCrcFeed nm1) := fun _ =>
  (by decide : ∀ nm1 : BitVec 5, (((0#19 ++ nm1 ++ 0x04#8 : Word) &&& 0xFFFFE0FF#32) == 0x00000004#32) = true) nm1

theorem RowMatch.cmdCrcStop : RowMatch.Statement .cmdCrcStop := fun _ => rfl

theorem RowMatch.cmdRelease : RowMatch.Statement .cmdRelease := fun _ => rfl

theorem RowMatch.cmdGlitchClr : RowMatch.Statement .cmdGlitchClr := fun _ => rfl

theorem RowMatch.cmdReset : RowMatch.Statement .cmdReset := fun _ => rfl

theorem RowMatch.cmdReserved (v : Word) : RowMatch.Statement (.cmdReserved v) := fun _ => by simp [Instr.row, encode, RowPattern.covers]

end Sys2Proof.Laws
end

