-- ==== Sys2Proof/Laws/State.lean ====
section
/-! SUPPORT. What each named update does to each field of the state: one lemma per field, so that a proof reads a field
of an updated state without unfolding the update. -/

namespace Sys2Proof.Machine

/-! setSticky -/

@[simp] theorem setSticky_params (b : Sticky) (s : State) : (setSticky b s).params = s.params := rfl
@[simp] theorem setSticky_ctrl (b : Sticky) (s : State) : (setSticky b s).ctrl = s.ctrl := rfl
@[simp] theorem setSticky_cfg (b : Sticky) (s : State) : (setSticky b s).cfg = s.cfg := rfl
@[simp] theorem setSticky_sticky (b : Sticky) (s : State) :
    (setSticky b s).sticky = s.sticky ||| b.mask := rfl
@[simp] theorem setSticky_crc (b : Sticky) (s : State) : (setSticky b s).crc = s.crc := rfl
@[simp] theorem setSticky_rxcrc (b : Sticky) (s : State) : (setSticky b s).rxcrc = s.rxcrc := rfl
@[simp] theorem setSticky_crcdin (b : Sticky) (s : State) : (setSticky b s).crcdin = s.crcdin := rfl
@[simp] theorem setSticky_irqen (b : Sticky) (s : State) : (setSticky b s).irqen = s.irqen := rfl
@[simp] theorem setSticky_glitchCnt (b : Sticky) (s : State) : (setSticky b s).glitchCnt = s.glitchCnt := rfl
@[simp] theorem setSticky_time (b : Sticky) (s : State) : (setSticky b s).time = s.time := rfl
@[simp] theorem setSticky_evq (b : Sticky) (s : State) : (setSticky b s).evq = s.evq := rfl
@[simp] theorem setSticky_cmp (b : Sticky) (s : State) : (setSticky b s).cmp = s.cmp := rfl
@[simp] theorem setSticky_gf (b : Sticky) (s : State) : (setSticky b s).gf = s.gf := rfl
@[simp] theorem setSticky_cr (b : Sticky) (s : State) : (setSticky b s).cr = s.cr := rfl
@[simp] theorem setSticky_ds (b : Sticky) (s : State) : (setSticky b s).ds = s.ds := rfl
@[simp] theorem setSticky_cc (b : Sticky) (s : State) : (setSticky b s).cc = s.cc := rfl
@[simp] theorem setSticky_host (b : Sticky) (s : State) : (setSticky b s).host = s.host := rfl

/-! clearSticky -/

@[simp] theorem clearSticky_params (v : Word) (s : State) : (clearSticky v s).params = s.params := rfl
@[simp] theorem clearSticky_ctrl (v : Word) (s : State) : (clearSticky v s).ctrl = s.ctrl := rfl
@[simp] theorem clearSticky_cfg (v : Word) (s : State) : (clearSticky v s).cfg = s.cfg := rfl
@[simp] theorem clearSticky_sticky (v : Word) (s : State) :
    (clearSticky v s).sticky = s.sticky &&& ~~~(v.extractLsb' 0 9) := rfl
@[simp] theorem clearSticky_crc (v : Word) (s : State) : (clearSticky v s).crc = s.crc := rfl
@[simp] theorem clearSticky_rxcrc (v : Word) (s : State) : (clearSticky v s).rxcrc = s.rxcrc := rfl
@[simp] theorem clearSticky_crcdin (v : Word) (s : State) : (clearSticky v s).crcdin = s.crcdin := rfl
@[simp] theorem clearSticky_irqen (v : Word) (s : State) : (clearSticky v s).irqen = s.irqen := rfl
@[simp] theorem clearSticky_glitchCnt (v : Word) (s : State) : (clearSticky v s).glitchCnt = s.glitchCnt := rfl
@[simp] theorem clearSticky_time (v : Word) (s : State) : (clearSticky v s).time = s.time := rfl
@[simp] theorem clearSticky_evq (v : Word) (s : State) : (clearSticky v s).evq = s.evq := rfl
@[simp] theorem clearSticky_cmp (v : Word) (s : State) : (clearSticky v s).cmp = s.cmp := rfl
@[simp] theorem clearSticky_gf (v : Word) (s : State) : (clearSticky v s).gf = s.gf := rfl
@[simp] theorem clearSticky_cr (v : Word) (s : State) : (clearSticky v s).cr = s.cr := rfl
@[simp] theorem clearSticky_ds (v : Word) (s : State) : (clearSticky v s).ds = s.ds := rfl
@[simp] theorem clearSticky_cc (v : Word) (s : State) : (clearSticky v s).cc = s.cc := rfl
@[simp] theorem clearSticky_host (v : Word) (s : State) : (clearSticky v s).host = s.host := rfl

/-! hostReturn -/

@[simp] theorem hostReturn_params (v : Word) (s : State) : (hostReturn v s).params = s.params := rfl
@[simp] theorem hostReturn_ctrl (v : Word) (s : State) : (hostReturn v s).ctrl = s.ctrl := rfl
@[simp] theorem hostReturn_cfg (v : Word) (s : State) : (hostReturn v s).cfg = s.cfg := rfl
@[simp] theorem hostReturn_sticky (v : Word) (s : State) : (hostReturn v s).sticky = s.sticky := rfl
@[simp] theorem hostReturn_crc (v : Word) (s : State) : (hostReturn v s).crc = s.crc := rfl
@[simp] theorem hostReturn_rxcrc (v : Word) (s : State) : (hostReturn v s).rxcrc = s.rxcrc := rfl
@[simp] theorem hostReturn_crcdin (v : Word) (s : State) : (hostReturn v s).crcdin = s.crcdin := rfl
@[simp] theorem hostReturn_irqen (v : Word) (s : State) : (hostReturn v s).irqen = s.irqen := rfl
@[simp] theorem hostReturn_glitchCnt (v : Word) (s : State) : (hostReturn v s).glitchCnt = s.glitchCnt := rfl
@[simp] theorem hostReturn_time (v : Word) (s : State) : (hostReturn v s).time = s.time := rfl
@[simp] theorem hostReturn_evq (v : Word) (s : State) : (hostReturn v s).evq = s.evq := rfl
@[simp] theorem hostReturn_cmp (v : Word) (s : State) : (hostReturn v s).cmp = s.cmp := rfl
@[simp] theorem hostReturn_gf (v : Word) (s : State) : (hostReturn v s).gf = s.gf := rfl
@[simp] theorem hostReturn_cr (v : Word) (s : State) : (hostReturn v s).cr = s.cr := rfl
@[simp] theorem hostReturn_ds (v : Word) (s : State) : (hostReturn v s).ds = s.ds := rfl
@[simp] theorem hostReturn_cc (v : Word) (s : State) : (hostReturn v s).cc = s.cc := rfl
@[simp] theorem hostReturn_host (v : Word) (s : State) :
    (hostReturn v s).host = { s.host with returned := s.host.returned ++ [v] } := rfl

/-! refuseAccess -/

@[simp] theorem refuseAccess_params (s : State) : (refuseAccess s).params = s.params := rfl
@[simp] theorem refuseAccess_ctrl (s : State) : (refuseAccess s).ctrl = s.ctrl := rfl
@[simp] theorem refuseAccess_cfg (s : State) : (refuseAccess s).cfg = s.cfg := rfl
@[simp] theorem refuseAccess_sticky (s : State) :
    (refuseAccess s).sticky = s.sticky ||| Sticky.accErr.mask := rfl
@[simp] theorem refuseAccess_crc (s : State) : (refuseAccess s).crc = s.crc := rfl
@[simp] theorem refuseAccess_rxcrc (s : State) : (refuseAccess s).rxcrc = s.rxcrc := rfl
@[simp] theorem refuseAccess_crcdin (s : State) : (refuseAccess s).crcdin = s.crcdin := rfl
@[simp] theorem refuseAccess_irqen (s : State) : (refuseAccess s).irqen = s.irqen := rfl
@[simp] theorem refuseAccess_glitchCnt (s : State) : (refuseAccess s).glitchCnt = s.glitchCnt := rfl
@[simp] theorem refuseAccess_time (s : State) : (refuseAccess s).time = s.time := rfl
@[simp] theorem refuseAccess_evq (s : State) : (refuseAccess s).evq = s.evq := rfl
@[simp] theorem refuseAccess_cmp (s : State) : (refuseAccess s).cmp = s.cmp := rfl
@[simp] theorem refuseAccess_gf (s : State) : (refuseAccess s).gf = s.gf := rfl
@[simp] theorem refuseAccess_cr (s : State) : (refuseAccess s).cr = s.cr := rfl
@[simp] theorem refuseAccess_ds (s : State) : (refuseAccess s).ds = s.ds := rfl
@[simp] theorem refuseAccess_cc (s : State) : (refuseAccess s).cc = s.cc := rfl
@[simp] theorem refuseAccess_host (s : State) : (refuseAccess s).host = s.host := rfl

/-! refuseRead -/

@[simp] theorem refuseRead_params (s : State) : (refuseRead s).params = s.params := rfl
@[simp] theorem refuseRead_ctrl (s : State) : (refuseRead s).ctrl = s.ctrl := rfl
@[simp] theorem refuseRead_cfg (s : State) : (refuseRead s).cfg = s.cfg := rfl
@[simp] theorem refuseRead_sticky (s : State) :
    (refuseRead s).sticky = s.sticky ||| Sticky.accErr.mask := rfl
@[simp] theorem refuseRead_crc (s : State) : (refuseRead s).crc = s.crc := rfl
@[simp] theorem refuseRead_rxcrc (s : State) : (refuseRead s).rxcrc = s.rxcrc := rfl
@[simp] theorem refuseRead_crcdin (s : State) : (refuseRead s).crcdin = s.crcdin := rfl
@[simp] theorem refuseRead_irqen (s : State) : (refuseRead s).irqen = s.irqen := rfl
@[simp] theorem refuseRead_glitchCnt (s : State) : (refuseRead s).glitchCnt = s.glitchCnt := rfl
@[simp] theorem refuseRead_time (s : State) : (refuseRead s).time = s.time := rfl
@[simp] theorem refuseRead_evq (s : State) : (refuseRead s).evq = s.evq := rfl
@[simp] theorem refuseRead_cmp (s : State) : (refuseRead s).cmp = s.cmp := rfl
@[simp] theorem refuseRead_gf (s : State) : (refuseRead s).gf = s.gf := rfl
@[simp] theorem refuseRead_cr (s : State) : (refuseRead s).cr = s.cr := rfl
@[simp] theorem refuseRead_ds (s : State) : (refuseRead s).ds = s.ds := rfl
@[simp] theorem refuseRead_cc (s : State) : (refuseRead s).cc = s.cc := rfl
@[simp] theorem refuseRead_host (s : State) :
    (refuseRead s).host = { s.host with returned := s.host.returned ++ [0#32] } := rfl

/-! popRecord -/

@[simp] theorem popRecord_params (s : State) : (popRecord s).params = s.params := rfl
@[simp] theorem popRecord_ctrl (s : State) : (popRecord s).ctrl = s.ctrl := rfl
@[simp] theorem popRecord_cfg (s : State) : (popRecord s).cfg = s.cfg := rfl
@[simp] theorem popRecord_sticky (s : State) : (popRecord s).sticky = s.sticky := rfl
@[simp] theorem popRecord_crc (s : State) : (popRecord s).crc = s.crc := rfl
@[simp] theorem popRecord_rxcrc (s : State) : (popRecord s).rxcrc = s.rxcrc := rfl
@[simp] theorem popRecord_crcdin (s : State) : (popRecord s).crcdin = s.crcdin := rfl
@[simp] theorem popRecord_irqen (s : State) : (popRecord s).irqen = s.irqen := rfl
@[simp] theorem popRecord_glitchCnt (s : State) : (popRecord s).glitchCnt = s.glitchCnt := rfl
@[simp] theorem popRecord_time (s : State) : (popRecord s).time = s.time := rfl
@[simp] theorem popRecord_evq (s : State) :
    (popRecord s).evq = s.evq.tail := rfl
@[simp] theorem popRecord_cmp (s : State) : (popRecord s).cmp = s.cmp := rfl
@[simp] theorem popRecord_gf (s : State) : (popRecord s).gf = s.gf := rfl
@[simp] theorem popRecord_cr (s : State) : (popRecord s).cr = s.cr := rfl
@[simp] theorem popRecord_ds (s : State) : (popRecord s).ds = s.ds := rfl
@[simp] theorem popRecord_cc (s : State) : (popRecord s).cc = s.cc := rfl
@[simp] theorem popRecord_host (s : State) : (popRecord s).host = s.host := rfl

/-! flushRecords -/

@[simp] theorem flushRecords_params (s : State) : (flushRecords s).params = s.params := rfl
@[simp] theorem flushRecords_ctrl (s : State) : (flushRecords s).ctrl = s.ctrl := rfl
@[simp] theorem flushRecords_cfg (s : State) : (flushRecords s).cfg = s.cfg := rfl
@[simp] theorem flushRecords_sticky (s : State) : (flushRecords s).sticky = s.sticky := rfl
@[simp] theorem flushRecords_crc (s : State) : (flushRecords s).crc = s.crc := rfl
@[simp] theorem flushRecords_rxcrc (s : State) : (flushRecords s).rxcrc = s.rxcrc := rfl
@[simp] theorem flushRecords_crcdin (s : State) : (flushRecords s).crcdin = s.crcdin := rfl
@[simp] theorem flushRecords_irqen (s : State) : (flushRecords s).irqen = s.irqen := rfl
@[simp] theorem flushRecords_glitchCnt (s : State) : (flushRecords s).glitchCnt = s.glitchCnt := rfl
@[simp] theorem flushRecords_time (s : State) : (flushRecords s).time = s.time := rfl
@[simp] theorem flushRecords_evq (s : State) :
    (flushRecords s).evq = [] := rfl
@[simp] theorem flushRecords_cmp (s : State) : (flushRecords s).cmp = s.cmp := rfl
@[simp] theorem flushRecords_gf (s : State) : (flushRecords s).gf = s.gf := rfl
@[simp] theorem flushRecords_cr (s : State) : (flushRecords s).cr = s.cr := rfl
@[simp] theorem flushRecords_ds (s : State) : (flushRecords s).ds = s.ds := rfl
@[simp] theorem flushRecords_cc (s : State) : (flushRecords s).cc = s.cc := rfl
@[simp] theorem flushRecords_host (s : State) : (flushRecords s).host = s.host := rfl

/-! takeEvent -/

@[simp] theorem takeEvent_params (rest : List HostEvent) (s : State) : (takeEvent rest s).params = s.params := rfl
@[simp] theorem takeEvent_ctrl (rest : List HostEvent) (s : State) : (takeEvent rest s).ctrl = s.ctrl := rfl
@[simp] theorem takeEvent_cfg (rest : List HostEvent) (s : State) : (takeEvent rest s).cfg = s.cfg := rfl
@[simp] theorem takeEvent_sticky (rest : List HostEvent) (s : State) : (takeEvent rest s).sticky = s.sticky := rfl
@[simp] theorem takeEvent_crc (rest : List HostEvent) (s : State) : (takeEvent rest s).crc = s.crc := rfl
@[simp] theorem takeEvent_rxcrc (rest : List HostEvent) (s : State) : (takeEvent rest s).rxcrc = s.rxcrc := rfl
@[simp] theorem takeEvent_crcdin (rest : List HostEvent) (s : State) : (takeEvent rest s).crcdin = s.crcdin := rfl
@[simp] theorem takeEvent_irqen (rest : List HostEvent) (s : State) : (takeEvent rest s).irqen = s.irqen := rfl
@[simp] theorem takeEvent_glitchCnt (rest : List HostEvent) (s : State) : (takeEvent rest s).glitchCnt = s.glitchCnt := rfl
@[simp] theorem takeEvent_time (rest : List HostEvent) (s : State) : (takeEvent rest s).time = s.time := rfl
@[simp] theorem takeEvent_evq (rest : List HostEvent) (s : State) : (takeEvent rest s).evq = s.evq := rfl
@[simp] theorem takeEvent_cmp (rest : List HostEvent) (s : State) : (takeEvent rest s).cmp = s.cmp := rfl
@[simp] theorem takeEvent_gf (rest : List HostEvent) (s : State) : (takeEvent rest s).gf = s.gf := rfl
@[simp] theorem takeEvent_cr (rest : List HostEvent) (s : State) : (takeEvent rest s).cr = s.cr := rfl
@[simp] theorem takeEvent_ds (rest : List HostEvent) (s : State) : (takeEvent rest s).ds = s.ds := rfl
@[simp] theorem takeEvent_cc (rest : List HostEvent) (s : State) : (takeEvent rest s).cc = s.cc := rfl
@[simp] theorem takeEvent_host (rest : List HostEvent) (s : State) :
    (takeEvent rest s).host = { s.host with pending := rest } := rfl

/-! enableInit -/

@[simp] theorem enableInit_params (s : State) : (enableInit s).params = s.params := rfl
@[simp] theorem enableInit_ctrl (s : State) : (enableInit s).ctrl = s.ctrl := rfl
@[simp] theorem enableInit_cfg (s : State) : (enableInit s).cfg = s.cfg := rfl
@[simp] theorem enableInit_sticky (s : State) : (enableInit s).sticky = s.sticky := rfl
@[simp] theorem enableInit_crc (s : State) : (enableInit s).crc = s.crc := rfl
@[simp] theorem enableInit_rxcrc (s : State) : (enableInit s).rxcrc = s.rxcrc := rfl
@[simp] theorem enableInit_crcdin (s : State) : (enableInit s).crcdin = s.crcdin := rfl
@[simp] theorem enableInit_irqen (s : State) : (enableInit s).irqen = s.irqen := rfl
@[simp] theorem enableInit_glitchCnt (s : State) : (enableInit s).glitchCnt = s.glitchCnt := rfl
@[simp] theorem enableInit_time (s : State) :
    (enableInit s).time = 0#64 := rfl
@[simp] theorem enableInit_evq (s : State) : (enableInit s).evq = s.evq := rfl
@[simp] theorem enableInit_cmp (s : State) :
    (enableInit s).cmp = Comparator.init := rfl
@[simp] theorem enableInit_gf (s : State) :
    (enableInit s).gf = GlitchFilter.init := rfl
@[simp] theorem enableInit_cr (s : State) :
    (enableInit s).cr = ClockRecovery.init := rfl
@[simp] theorem enableInit_ds (s : State) :
    (enableInit s).ds = Destuffer.init := rfl
@[simp] theorem enableInit_cc (s : State) :
    (enableInit s).cc = CrcControl.init := rfl
@[simp] theorem enableInit_host (s : State) : (enableInit s).host = s.host := rfl

/-! resetBlock -/

@[simp] theorem resetBlock_params (s : State) : (resetBlock s).params = s.params := rfl
@[simp] theorem resetBlock_ctrl (s : State) :
    (resetBlock s).ctrl = { en := false, single := false, inv := false, crcm := false, levev := false } := rfl
@[simp] theorem resetBlock_cfg (s : State) :
    (resetBlock s).cfg = { hthr := 0#32, lthr := 0#32, nbp := 0#16, spo := 0#16, sjw := 0#16, mgw := 0#8 } := rfl
@[simp] theorem resetBlock_sticky (s : State) :
    (resetBlock s).sticky = 0#9 := rfl
@[simp] theorem resetBlock_crc (s : State) :
    (resetBlock s).crc = 0#15 := rfl
@[simp] theorem resetBlock_rxcrc (s : State) :
    (resetBlock s).rxcrc = 0#15 := rfl
@[simp] theorem resetBlock_crcdin (s : State) :
    (resetBlock s).crcdin = 0#32 := rfl
@[simp] theorem resetBlock_irqen (s : State) :
    (resetBlock s).irqen = 0#10 := rfl
@[simp] theorem resetBlock_glitchCnt (s : State) :
    (resetBlock s).glitchCnt = 0#32 := rfl
@[simp] theorem resetBlock_time (s : State) :
    (resetBlock s).time = 0#64 := rfl
@[simp] theorem resetBlock_evq (s : State) :
    (resetBlock s).evq = [] := rfl
@[simp] theorem resetBlock_cmp (s : State) :
    (resetBlock s).cmp = Comparator.init := rfl
@[simp] theorem resetBlock_gf (s : State) :
    (resetBlock s).gf = GlitchFilter.init := rfl
@[simp] theorem resetBlock_cr (s : State) :
    (resetBlock s).cr = ClockRecovery.init := rfl
@[simp] theorem resetBlock_ds (s : State) :
    (resetBlock s).ds = Destuffer.init := rfl
@[simp] theorem resetBlock_cc (s : State) :
    (resetBlock s).cc = CrcControl.init := rfl
@[simp] theorem resetBlock_host (s : State) : (resetBlock s).host = s.host := rfl

/-! regionOpen -/

@[simp] theorem regionOpen_params (s : State) : (regionOpen s).params = s.params := rfl
@[simp] theorem regionOpen_ctrl (s : State) : (regionOpen s).ctrl = s.ctrl := rfl
@[simp] theorem regionOpen_cfg (s : State) : (regionOpen s).cfg = s.cfg := rfl
@[simp] theorem regionOpen_sticky (s : State) : (regionOpen s).sticky = s.sticky := rfl
@[simp] theorem regionOpen_crc (s : State) : (regionOpen s).crc = s.crc := rfl
@[simp] theorem regionOpen_rxcrc (s : State) : (regionOpen s).rxcrc = s.rxcrc := rfl
@[simp] theorem regionOpen_crcdin (s : State) : (regionOpen s).crcdin = s.crcdin := rfl
@[simp] theorem regionOpen_irqen (s : State) : (regionOpen s).irqen = s.irqen := rfl
@[simp] theorem regionOpen_glitchCnt (s : State) : (regionOpen s).glitchCnt = s.glitchCnt := rfl
@[simp] theorem regionOpen_time (s : State) : (regionOpen s).time = s.time := rfl
@[simp] theorem regionOpen_evq (s : State) : (regionOpen s).evq = s.evq := rfl
@[simp] theorem regionOpen_cmp (s : State) : (regionOpen s).cmp = s.cmp := rfl
@[simp] theorem regionOpen_gf (s : State) : (regionOpen s).gf = s.gf := rfl
@[simp] theorem regionOpen_cr (s : State) : (regionOpen s).cr = s.cr := rfl
@[simp] theorem regionOpen_ds (s : State) :
    (regionOpen s).ds = { dsAct := true, cnt := 0#3, lv := .recessive, endp := false, didx := 0#16 } := rfl
@[simp] theorem regionOpen_cc (s : State) : (regionOpen s).cc = s.cc := rfl
@[simp] theorem regionOpen_host (s : State) : (regionOpen s).host = s.host := rfl

/-! crcFrameStart -/

@[simp] theorem crcFrameStart_params (s : State) : (crcFrameStart s).params = s.params := rfl
@[simp] theorem crcFrameStart_ctrl (s : State) : (crcFrameStart s).ctrl = s.ctrl := rfl
@[simp] theorem crcFrameStart_cfg (s : State) : (crcFrameStart s).cfg = s.cfg := rfl
@[simp] theorem crcFrameStart_sticky (s : State) : (crcFrameStart s).sticky = s.sticky := rfl
@[simp] theorem crcFrameStart_crc (s : State) :
    (crcFrameStart s).crc = 0#15 := rfl
@[simp] theorem crcFrameStart_rxcrc (s : State) :
    (crcFrameStart s).rxcrc = 0#15 := rfl
@[simp] theorem crcFrameStart_crcdin (s : State) : (crcFrameStart s).crcdin = s.crcdin := rfl
@[simp] theorem crcFrameStart_irqen (s : State) : (crcFrameStart s).irqen = s.irqen := rfl
@[simp] theorem crcFrameStart_glitchCnt (s : State) : (crcFrameStart s).glitchCnt = s.glitchCnt := rfl
@[simp] theorem crcFrameStart_time (s : State) : (crcFrameStart s).time = s.time := rfl
@[simp] theorem crcFrameStart_evq (s : State) : (crcFrameStart s).evq = s.evq := rfl
@[simp] theorem crcFrameStart_cmp (s : State) : (crcFrameStart s).cmp = s.cmp := rfl
@[simp] theorem crcFrameStart_gf (s : State) : (crcFrameStart s).gf = s.gf := rfl
@[simp] theorem crcFrameStart_cr (s : State) : (crcFrameStart s).cr = s.cr := rfl
@[simp] theorem crcFrameStart_ds (s : State) : (crcFrameStart s).ds = s.ds := rfl
@[simp] theorem crcFrameStart_cc (s : State) :
    (crcFrameStart s).cc = { crcph := .cover, stopp := false, rxn := 0#4 } := rfl
@[simp] theorem crcFrameStart_host (s : State) : (crcFrameStart s).host = s.host := rfl

/-! hardSync -/

@[simp] theorem hardSync_params (s : State) : (hardSync s).params = s.params := rfl
@[simp] theorem hardSync_ctrl (s : State) : (hardSync s).ctrl = s.ctrl := rfl
@[simp] theorem hardSync_cfg (s : State) : (hardSync s).cfg = s.cfg := rfl
@[simp] theorem hardSync_sticky (s : State) :
    (hardSync s).sticky = s.sticky ||| Sticky.sof.mask := rfl
@[simp] theorem hardSync_crc (s : State) :
    (hardSync s).crc = 0#15 := rfl
@[simp] theorem hardSync_rxcrc (s : State) :
    (hardSync s).rxcrc = 0#15 := rfl
@[simp] theorem hardSync_crcdin (s : State) : (hardSync s).crcdin = s.crcdin := rfl
@[simp] theorem hardSync_irqen (s : State) : (hardSync s).irqen = s.irqen := rfl
@[simp] theorem hardSync_glitchCnt (s : State) : (hardSync s).glitchCnt = s.glitchCnt := rfl
@[simp] theorem hardSync_time (s : State) : (hardSync s).time = s.time := rfl
@[simp] theorem hardSync_evq (s : State) : (hardSync s).evq = s.evq := rfl
@[simp] theorem hardSync_cmp (s : State) : (hardSync s).cmp = s.cmp := rfl
@[simp] theorem hardSync_gf (s : State) : (hardSync s).gf = s.gf := rfl
@[simp] theorem hardSync_cr (s : State) :
    (hardSync s).cr = { s.cr with
      crm := .sync, ph := 0#16, blen := s.cfg.nbp, smp := false, rsy := false, sofp := true } := rfl
@[simp] theorem hardSync_ds (s : State) :
    (hardSync s).ds = { dsAct := true, cnt := 0#3, lv := .recessive, endp := false, didx := 0#16 } := rfl
@[simp] theorem hardSync_cc (s : State) :
    (hardSync s).cc = { crcph := .cover, stopp := false, rxn := 0#4 } := rfl
@[simp] theorem hardSync_host (s : State) : (hardSync s).host = s.host := rfl

/-! syncStep -/

@[simp] theorem syncStep_params (edge : Bool) (s : State) : (syncStep edge s).params = s.params := rfl
@[simp] theorem syncStep_ctrl (edge : Bool) (s : State) : (syncStep edge s).ctrl = s.ctrl := rfl
@[simp] theorem syncStep_cfg (edge : Bool) (s : State) : (syncStep edge s).cfg = s.cfg := rfl
@[simp] theorem syncStep_sticky (edge : Bool) (s : State) : (syncStep edge s).sticky = s.sticky := rfl
@[simp] theorem syncStep_crc (edge : Bool) (s : State) : (syncStep edge s).crc = s.crc := rfl
@[simp] theorem syncStep_rxcrc (edge : Bool) (s : State) : (syncStep edge s).rxcrc = s.rxcrc := rfl
@[simp] theorem syncStep_crcdin (edge : Bool) (s : State) : (syncStep edge s).crcdin = s.crcdin := rfl
@[simp] theorem syncStep_irqen (edge : Bool) (s : State) : (syncStep edge s).irqen = s.irqen := rfl
@[simp] theorem syncStep_glitchCnt (edge : Bool) (s : State) : (syncStep edge s).glitchCnt = s.glitchCnt := rfl
@[simp] theorem syncStep_time (edge : Bool) (s : State) : (syncStep edge s).time = s.time := rfl
@[simp] theorem syncStep_evq (edge : Bool) (s : State) : (syncStep edge s).evq = s.evq := rfl
@[simp] theorem syncStep_cmp (edge : Bool) (s : State) : (syncStep edge s).cmp = s.cmp := rfl
@[simp] theorem syncStep_gf (edge : Bool) (s : State) : (syncStep edge s).gf = s.gf := rfl
@[simp] theorem syncStep_cr (edge : Bool) (s : State) :
    (syncStep edge s).cr = softResync s.cfg.nbp s.cfg.sjw edge (bitBoundary s.cfg.nbp s.cr) := rfl
@[simp] theorem syncStep_ds (edge : Bool) (s : State) : (syncStep edge s).ds = s.ds := rfl
@[simp] theorem syncStep_cc (edge : Bool) (s : State) : (syncStep edge s).cc = s.cc := rfl
@[simp] theorem syncStep_host (edge : Bool) (s : State) : (syncStep edge s).host = s.host := rfl

/-! idleStep -/

@[simp] theorem idleStep_params (f : Level) (s : State) : (idleStep f s).params = s.params := rfl
@[simp] theorem idleStep_ctrl (f : Level) (s : State) : (idleStep f s).ctrl = s.ctrl := rfl
@[simp] theorem idleStep_cfg (f : Level) (s : State) : (idleStep f s).cfg = s.cfg := rfl
@[simp] theorem idleStep_sticky (f : Level) (s : State) : (idleStep f s).sticky = s.sticky := rfl
@[simp] theorem idleStep_crc (f : Level) (s : State) : (idleStep f s).crc = s.crc := rfl
@[simp] theorem idleStep_rxcrc (f : Level) (s : State) : (idleStep f s).rxcrc = s.rxcrc := rfl
@[simp] theorem idleStep_crcdin (f : Level) (s : State) : (idleStep f s).crcdin = s.crcdin := rfl
@[simp] theorem idleStep_irqen (f : Level) (s : State) : (idleStep f s).irqen = s.irqen := rfl
@[simp] theorem idleStep_glitchCnt (f : Level) (s : State) : (idleStep f s).glitchCnt = s.glitchCnt := rfl
@[simp] theorem idleStep_time (f : Level) (s : State) : (idleStep f s).time = s.time := rfl
@[simp] theorem idleStep_evq (f : Level) (s : State) : (idleStep f s).evq = s.evq := rfl
@[simp] theorem idleStep_cmp (f : Level) (s : State) : (idleStep f s).cmp = s.cmp := rfl
@[simp] theorem idleStep_gf (f : Level) (s : State) : (idleStep f s).gf = s.gf := rfl
@[simp] theorem idleStep_cr (f : Level) (s : State) :
    (idleStep f s).cr = { s.cr with
      idlecnt := if f = .recessive then sat 16 (s.cr.idlecnt.toNat + 1) else 0#16 } := rfl
@[simp] theorem idleStep_ds (f : Level) (s : State) : (idleStep f s).ds = s.ds := rfl
@[simp] theorem idleStep_cc (f : Level) (s : State) : (idleStep f s).cc = s.cc := rfl
@[simp] theorem idleStep_host (f : Level) (s : State) : (idleStep f s).host = s.host := rfl

/-! advanceTime -/

@[simp] theorem advanceTime_params (s : State) : (advanceTime s).params = s.params := rfl
@[simp] theorem advanceTime_ctrl (s : State) : (advanceTime s).ctrl = s.ctrl := rfl
@[simp] theorem advanceTime_cfg (s : State) : (advanceTime s).cfg = s.cfg := rfl
@[simp] theorem advanceTime_sticky (s : State) : (advanceTime s).sticky = s.sticky := rfl
@[simp] theorem advanceTime_crc (s : State) : (advanceTime s).crc = s.crc := rfl
@[simp] theorem advanceTime_rxcrc (s : State) : (advanceTime s).rxcrc = s.rxcrc := rfl
@[simp] theorem advanceTime_crcdin (s : State) : (advanceTime s).crcdin = s.crcdin := rfl
@[simp] theorem advanceTime_irqen (s : State) : (advanceTime s).irqen = s.irqen := rfl
@[simp] theorem advanceTime_glitchCnt (s : State) : (advanceTime s).glitchCnt = s.glitchCnt := rfl
@[simp] theorem advanceTime_time (s : State) :
    (advanceTime s).time = s.time + 1#64 := rfl
@[simp] theorem advanceTime_evq (s : State) : (advanceTime s).evq = s.evq := rfl
@[simp] theorem advanceTime_cmp (s : State) : (advanceTime s).cmp = s.cmp := rfl
@[simp] theorem advanceTime_gf (s : State) : (advanceTime s).gf = s.gf := rfl
@[simp] theorem advanceTime_cr (s : State) : (advanceTime s).cr = s.cr := rfl
@[simp] theorem advanceTime_ds (s : State) : (advanceTime s).ds = s.ds := rfl
@[simp] theorem advanceTime_cc (s : State) : (advanceTime s).cc = s.cc := rfl
@[simp] theorem advanceTime_host (s : State) : (advanceTime s).host = s.host := rfl

/-! emit -/

/-- `emit` appends its record or, with EVQ full, sets OVF (R311), and does nothing else. -/
theorem emit_cases (ty : RecordType) (data : BitVec 28) (aux : Word) (time : Time) (s : State) :
    (s.evq.length ≠ s.params.evqDepth ∧
      emit ty data aux time s = { s with evq := s.evq ++ [mkRecord ty data aux time] }) ∨
    (s.evq.length = s.params.evqDepth ∧ emit ty data aux time s = setSticky .ovf s) := by
  unfold emit
  split
  · exact .inr ⟨‹_›, rfl⟩
  · exact .inl ⟨‹_›, rfl⟩

theorem emit_sticky (ty : RecordType) (data : BitVec 28) (aux : Word) (time : Time) (s : State) :
    (emit ty data aux time s).sticky =
      if s.evq.length = s.params.evqDepth then s.sticky ||| Sticky.ovf.mask else s.sticky := by
  unfold emit; split <;> rfl

theorem emit_evq (ty : RecordType) (data : BitVec 28) (aux : Word) (time : Time) (s : State) :
    (emit ty data aux time s).evq =
      if s.evq.length = s.params.evqDepth then s.evq else s.evq ++ [mkRecord ty data aux time] := by
  unfold emit; split <;> rfl

@[simp] theorem emit_params (ty : RecordType) (data : BitVec 28) (aux : Word) (time : Time) (s : State) : (emit ty data aux time s).params = s.params := by unfold emit; split <;> rfl
@[simp] theorem emit_ctrl (ty : RecordType) (data : BitVec 28) (aux : Word) (time : Time) (s : State) : (emit ty data aux time s).ctrl = s.ctrl := by unfold emit; split <;> rfl
@[simp] theorem emit_cfg (ty : RecordType) (data : BitVec 28) (aux : Word) (time : Time) (s : State) : (emit ty data aux time s).cfg = s.cfg := by unfold emit; split <;> rfl
@[simp] theorem emit_crc (ty : RecordType) (data : BitVec 28) (aux : Word) (time : Time) (s : State) : (emit ty data aux time s).crc = s.crc := by unfold emit; split <;> rfl
@[simp] theorem emit_rxcrc (ty : RecordType) (data : BitVec 28) (aux : Word) (time : Time) (s : State) : (emit ty data aux time s).rxcrc = s.rxcrc := by unfold emit; split <;> rfl
@[simp] theorem emit_crcdin (ty : RecordType) (data : BitVec 28) (aux : Word) (time : Time) (s : State) : (emit ty data aux time s).crcdin = s.crcdin := by unfold emit; split <;> rfl
@[simp] theorem emit_irqen (ty : RecordType) (data : BitVec 28) (aux : Word) (time : Time) (s : State) : (emit ty data aux time s).irqen = s.irqen := by unfold emit; split <;> rfl
@[simp] theorem emit_glitchCnt (ty : RecordType) (data : BitVec 28) (aux : Word) (time : Time) (s : State) : (emit ty data aux time s).glitchCnt = s.glitchCnt := by unfold emit; split <;> rfl
@[simp] theorem emit_time (ty : RecordType) (data : BitVec 28) (aux : Word) (time : Time) (s : State) : (emit ty data aux time s).time = s.time := by unfold emit; split <;> rfl
@[simp] theorem emit_cmp (ty : RecordType) (data : BitVec 28) (aux : Word) (time : Time) (s : State) : (emit ty data aux time s).cmp = s.cmp := by unfold emit; split <;> rfl
@[simp] theorem emit_gf (ty : RecordType) (data : BitVec 28) (aux : Word) (time : Time) (s : State) : (emit ty data aux time s).gf = s.gf := by unfold emit; split <;> rfl
@[simp] theorem emit_cr (ty : RecordType) (data : BitVec 28) (aux : Word) (time : Time) (s : State) : (emit ty data aux time s).cr = s.cr := by unfold emit; split <;> rfl
@[simp] theorem emit_ds (ty : RecordType) (data : BitVec 28) (aux : Word) (time : Time) (s : State) : (emit ty data aux time s).ds = s.ds := by unfold emit; split <;> rfl
@[simp] theorem emit_cc (ty : RecordType) (data : BitVec 28) (aux : Word) (time : Time) (s : State) : (emit ty data aux time s).cc = s.cc := by unfold emit; split <;> rfl
@[simp] theorem emit_host (ty : RecordType) (data : BitVec 28) (aux : Word) (time : Time) (s : State) : (emit ty data aux time s).host = s.host := by unfold emit; split <;> rfl

/-! storeRun -/

@[simp] theorem storeRun_params (c : BitClass) (s : State) : (storeRun c s).params = s.params := by unfold storeRun; dsimp only; split <;> rfl
@[simp] theorem storeRun_ctrl (c : BitClass) (s : State) : (storeRun c s).ctrl = s.ctrl := by unfold storeRun; dsimp only; split <;> rfl
@[simp] theorem storeRun_cfg (c : BitClass) (s : State) : (storeRun c s).cfg = s.cfg := by unfold storeRun; dsimp only; split <;> rfl
@[simp] theorem storeRun_sticky (c : BitClass) (s : State) :
    (storeRun c s).sticky = if c.serr then s.sticky ||| Sticky.stuffErr.mask else s.sticky := by unfold storeRun; dsimp only; split <;> rfl
@[simp] theorem storeRun_crc (c : BitClass) (s : State) : (storeRun c s).crc = s.crc := by unfold storeRun; dsimp only; split <;> rfl
@[simp] theorem storeRun_rxcrc (c : BitClass) (s : State) : (storeRun c s).rxcrc = s.rxcrc := by unfold storeRun; dsimp only; split <;> rfl
@[simp] theorem storeRun_crcdin (c : BitClass) (s : State) : (storeRun c s).crcdin = s.crcdin := by unfold storeRun; dsimp only; split <;> rfl
@[simp] theorem storeRun_irqen (c : BitClass) (s : State) : (storeRun c s).irqen = s.irqen := by unfold storeRun; dsimp only; split <;> rfl
@[simp] theorem storeRun_glitchCnt (c : BitClass) (s : State) : (storeRun c s).glitchCnt = s.glitchCnt := by unfold storeRun; dsimp only; split <;> rfl
@[simp] theorem storeRun_time (c : BitClass) (s : State) : (storeRun c s).time = s.time := by unfold storeRun; dsimp only; split <;> rfl
@[simp] theorem storeRun_evq (c : BitClass) (s : State) : (storeRun c s).evq = s.evq := by unfold storeRun; dsimp only; split <;> rfl
@[simp] theorem storeRun_cmp (c : BitClass) (s : State) : (storeRun c s).cmp = s.cmp := by unfold storeRun; dsimp only; split <;> rfl
@[simp] theorem storeRun_gf (c : BitClass) (s : State) : (storeRun c s).gf = s.gf := by unfold storeRun; dsimp only; split <;> rfl
@[simp] theorem storeRun_cr (c : BitClass) (s : State) : (storeRun c s).cr = s.cr := by unfold storeRun; dsimp only; split <;> rfl
@[simp] theorem storeRun_ds (c : BitClass) (s : State) :
    (storeRun c s).ds = { s.ds with cnt := c.cnt, lv := c.lv } := by unfold storeRun; dsimp only; split <;> rfl
@[simp] theorem storeRun_cc (c : BitClass) (s : State) : (storeRun c s).cc = s.cc := by unfold storeRun; dsimp only; split <;> rfl
@[simp] theorem storeRun_host (c : BitClass) (s : State) : (storeRun c s).host = s.host := by unfold storeRun; dsimp only; split <;> rfl

/-! countData -/

@[simp] theorem countData_params (d : Bool) (s : State) : (countData d s).params = s.params := by cases d <;> rfl
@[simp] theorem countData_ctrl (d : Bool) (s : State) : (countData d s).ctrl = s.ctrl := by cases d <;> rfl
@[simp] theorem countData_cfg (d : Bool) (s : State) : (countData d s).cfg = s.cfg := by cases d <;> rfl
@[simp] theorem countData_sticky (d : Bool) (s : State) : (countData d s).sticky = s.sticky := by cases d <;> rfl
@[simp] theorem countData_crc (d : Bool) (s : State) : (countData d s).crc = s.crc := by cases d <;> rfl
@[simp] theorem countData_rxcrc (d : Bool) (s : State) : (countData d s).rxcrc = s.rxcrc := by cases d <;> rfl
@[simp] theorem countData_crcdin (d : Bool) (s : State) : (countData d s).crcdin = s.crcdin := by cases d <;> rfl
@[simp] theorem countData_irqen (d : Bool) (s : State) : (countData d s).irqen = s.irqen := by cases d <;> rfl
@[simp] theorem countData_glitchCnt (d : Bool) (s : State) : (countData d s).glitchCnt = s.glitchCnt := by cases d <;> rfl
@[simp] theorem countData_time (d : Bool) (s : State) : (countData d s).time = s.time := by cases d <;> rfl
@[simp] theorem countData_evq (d : Bool) (s : State) : (countData d s).evq = s.evq := by cases d <;> rfl
@[simp] theorem countData_cmp (d : Bool) (s : State) : (countData d s).cmp = s.cmp := by cases d <;> rfl
@[simp] theorem countData_gf (d : Bool) (s : State) : (countData d s).gf = s.gf := by cases d <;> rfl
@[simp] theorem countData_cr (d : Bool) (s : State) : (countData d s).cr = s.cr := by cases d <;> rfl
@[simp] theorem countData_ds (d : Bool) (s : State) :
    (countData d s).ds = if d then { s.ds with didx := sat 16 (s.ds.didx.toNat + 1) } else s.ds := by cases d <;> rfl
@[simp] theorem countData_cc (d : Bool) (s : State) : (countData d s).cc = s.cc := by cases d <;> rfl
@[simp] theorem countData_host (d : Bool) (s : State) : (countData d s).host = s.host := by cases d <;> rfl

/-! regionEnd -/

@[simp] theorem regionEnd_params (s : State) : (regionEnd s).params = s.params := by unfold regionEnd; split <;> rfl
@[simp] theorem regionEnd_ctrl (s : State) : (regionEnd s).ctrl = s.ctrl := by unfold regionEnd; split <;> rfl
@[simp] theorem regionEnd_cfg (s : State) : (regionEnd s).cfg = s.cfg := by unfold regionEnd; split <;> rfl
@[simp] theorem regionEnd_sticky (s : State) : (regionEnd s).sticky = s.sticky := by unfold regionEnd; split <;> rfl
@[simp] theorem regionEnd_crc (s : State) : (regionEnd s).crc = s.crc := by unfold regionEnd; split <;> rfl
@[simp] theorem regionEnd_rxcrc (s : State) : (regionEnd s).rxcrc = s.rxcrc := by unfold regionEnd; split <;> rfl
@[simp] theorem regionEnd_crcdin (s : State) : (regionEnd s).crcdin = s.crcdin := by unfold regionEnd; split <;> rfl
@[simp] theorem regionEnd_irqen (s : State) : (regionEnd s).irqen = s.irqen := by unfold regionEnd; split <;> rfl
@[simp] theorem regionEnd_glitchCnt (s : State) : (regionEnd s).glitchCnt = s.glitchCnt := by unfold regionEnd; split <;> rfl
@[simp] theorem regionEnd_time (s : State) : (regionEnd s).time = s.time := by unfold regionEnd; split <;> rfl
@[simp] theorem regionEnd_evq (s : State) : (regionEnd s).evq = s.evq := by unfold regionEnd; split <;> rfl
@[simp] theorem regionEnd_cmp (s : State) : (regionEnd s).cmp = s.cmp := by unfold regionEnd; split <;> rfl
@[simp] theorem regionEnd_gf (s : State) : (regionEnd s).gf = s.gf := by unfold regionEnd; split <;> rfl
@[simp] theorem regionEnd_cr (s : State) : (regionEnd s).cr = s.cr := by unfold regionEnd; split <;> rfl
@[simp] theorem regionEnd_ds (s : State) :
    (regionEnd s).ds = if s.ds.endp = true ∧ s.ds.cnt.toNat < Config.stuffRun.toNat then
      { s.ds with dsAct := false, endp := false } else s.ds := by unfold regionEnd; split <;> rfl
@[simp] theorem regionEnd_cc (s : State) : (regionEnd s).cc = s.cc := by unfold regionEnd; split <;> rfl
@[simp] theorem regionEnd_host (s : State) : (regionEnd s).host = s.host := by unfold regionEnd; split <;> rfl

end Sys2Proof.Machine
end

