-- ==== Sys2Proof/Laws/Stages.lean ====
section
/-! SUPPORT. What the stages of a tick can do: one frame for all of them (`StageFrame`), and the records each can append
(`Appends`). A proof about a tick cites these and does not unfold the stages. -/

namespace Sys2Proof.Laws

open Sys2Proof.Machine

/-- What no stage of a tick changes; sticky bits are only added, and none of SETUP_ERR, ACC_ERR, CMD_ERR. -/
structure StageFrame (s t : State) : Prop where
  params : t.params = s.params
  ctrl : t.ctrl = s.ctrl
  cfg : t.cfg = s.cfg
  crcdin : t.crcdin = s.crcdin
  irqen : t.irqen = s.irqen
  time : t.time = s.time
  host : t.host = s.host
  stickyGrows : ∀ k, s.sticky.getLsbD k = true → t.sticky.getLsbD k = true
  stickyLow : ∀ k, k < 3 → t.sticky.getLsbD k = s.sticky.getLsbD k

theorem StageFrame.refl (s : State) : StageFrame s s :=
  ⟨rfl, rfl, rfl, rfl, rfl, rfl, rfl, fun _ h => h, fun _ _ => rfl⟩

theorem StageFrame.trans {s t u : State} (h : StageFrame s t) (g : StageFrame t u) : StageFrame s u where
  params := g.params.trans h.params
  ctrl := g.ctrl.trans h.ctrl
  cfg := g.cfg.trans h.cfg
  crcdin := g.crcdin.trans h.crcdin
  irqen := g.irqen.trans h.irqen
  time := g.time.trans h.time
  host := g.host.trans h.host
  stickyGrows k hk := g.stickyGrows k (h.stickyGrows k hk)
  stickyLow k hk := (g.stickyLow k hk).trans (h.stickyLow k hk)

/-- A condition of the pipeline (code 3 to 8) sets no bit below 3. -/
theorem setSticky_frame (b : Sticky) (hb : 3 ≤ b.index) (s : State) : StageFrame s (setSticky b s) where
  params := rfl
  ctrl := rfl
  cfg := rfl
  crcdin := rfl
  irqen := rfl
  time := rfl
  host := rfl
  stickyGrows k hk := by simp [hk]
  stickyLow k hk := by
    have : b.mask.getLsbD k = false := by
      simp only [Sticky.mask, BitVec.getLsbD_shiftLeft]
      have : k < b.index := by omega
      simp [this]
    simp [this]

theorem emit_frame (ty : RecordType) (data : BitVec 28) (aux : Word) (n : Time) (s : State) :
    StageFrame s (emit ty data aux n s) := by
  unfold emit
  split
  · exact setSticky_frame _ (by decide) s
  · exact ⟨rfl, rfl, rfl, rfl, rfl, rfl, rfl, fun _ h => h, fun _ _ => rfl⟩

/-- The records a stage may append: a sublist of `l` (a record is missing where EVQ was full, or was not made). -/
def Appends (l : List Record) (s t : State) : Prop := ∃ new : List Record, t.evq = s.evq ++ new ∧ new.Sublist l

theorem Appends.of_eq {s t : State} (h : t.evq = s.evq) (l : List Record) : Appends l s t :=
  ⟨[], by simp [h], by simp⟩

theorem Appends.trans {s t u : State} {l m : List Record} (h : Appends l s t) (g : Appends m t u) :
    Appends (l ++ m) s u := by
  obtain ⟨a, ha, hl⟩ := h
  obtain ⟨b, hb, hm⟩ := g
  exact ⟨a ++ b, by rw [hb, ha, List.append_assoc], hl.append hm⟩

theorem Appends.mono {s t : State} {l m : List Record} (h : Appends l s t) (hm : l.Sublist m) : Appends m s t := by
  obtain ⟨a, ha, hl⟩ := h
  exact ⟨a, ha, hl.trans hm⟩

theorem emit_appends (ty : RecordType) (data : BitVec 28) (aux : Word) (n : Time) (s : State) :
    Appends [mkRecord ty data aux n] s (emit ty data aux n s) := by
  unfold emit
  split
  · exact .of_eq rfl _
  · exact ⟨[mkRecord ty data aux n], rfl, List.Sublist.refl _⟩

/-- With room in EVQ, `emit` appends its record and changes nothing else. -/
theorem emit_of_room (ty : RecordType) (data : BitVec 28) (aux : Word) (n : Time) (s : State)
    (h : s.evq.length < s.params.evqDepth) :
    emit ty data aux n s = { s with evq := s.evq ++ [mkRecord ty data aux n] } := by
  unfold emit
  rw [if_neg (by omega)]

/-- The TYPE of a made record is its type's code. -/
@[simp] theorem mkRecord_typeCode (ty : RecordType) (data : BitVec 28) (aux : Word) (n : Time) :
    (mkRecord ty data aux n).typeCode = ty.code := by
  apply BitVec.eq_of_getLsbD_eq
  intro i hi
  simp only [Record.typeCode, mkRecord, BitVec.getLsbD_extractLsb', BitVec.getLsbD_append]
  have h : ¬ (28 + i < 28) := by omega
  simp [hi]

@[simp] theorem mkRecord_time (ty : RecordType) (data : BitVec 28) (aux : Word) (n : Time) :
    (mkRecord ty data aux n).time = n := rfl

/-! ## CRC engine -/

/-- The CRC engine appends nothing and keeps the frame, and its record, if any, comes with a comparison. -/
theorem crcCover_frame (b : Level) (data stuff : Bool) (s : State) : StageFrame s (crcCover b data stuff s).2 := by
  unfold crcCover
  split
  · split
    · exact ⟨rfl, rfl, rfl, rfl, rfl, rfl, rfl, fun _ h => h, fun _ _ => rfl⟩
    · split <;> exact ⟨rfl, rfl, rfl, rfl, rfl, rfl, rfl, fun _ h => h, fun _ _ => rfl⟩
  · exact .refl s

@[simp] theorem crcCover_evq (b : Level) (data stuff : Bool) (s : State) :
    (crcCover b data stuff s).2.evq = s.evq := by
  unfold crcCover
  split
  · split
    · rfl
    · split <;> rfl
  · rfl

@[simp] theorem crcCover_ds (b : Level) (data stuff : Bool) (s : State) :
    (crcCover b data stuff s).2.ds = s.ds := by
  unfold crcCover
  split
  · split
    · rfl
    · split <;> rfl
  · rfl

@[simp] theorem crcCover_cr (b : Level) (data stuff : Bool) (s : State) :
    (crcCover b data stuff s).2.cr = s.cr := by
  unfold crcCover
  split
  · split
    · rfl
    · split <;> rfl
  · rfl

@[simp] theorem crcCover_gf (b : Level) (data stuff : Bool) (s : State) :
    (crcCover b data stuff s).2.gf = s.gf := by
  unfold crcCover
  split
  · split
    · rfl
    · split <;> rfl
  · rfl

@[simp] theorem crcCover_cmp (b : Level) (data stuff : Bool) (s : State) :
    (crcCover b data stuff s).2.cmp = s.cmp := by
  unfold crcCover
  split
  · split
    · rfl
    · split <;> rfl
  · rfl

@[simp] theorem crcCover_glitchCnt (b : Level) (data stuff : Bool) (s : State) :
    (crcCover b data stuff s).2.glitchCnt = s.glitchCnt := by
  unfold crcCover
  split
  · split
    · rfl
    · split <;> rfl
  · rfl

theorem crcCompare_frame (s : State) : StageFrame s (crcCompare s).st := by
  have h := setSticky_frame (if decide (s.rxcrc ≠ s.crc) then .crcErr else .crcOk)
    (by split <;> decide) s
  exact ⟨rfl, rfl, rfl, rfl, rfl, rfl, rfl, h.stickyGrows, h.stickyLow⟩

theorem crcCapture_frame (b : Level) (s : State) : StageFrame s (crcCapture b s).st := by
  unfold crcCapture
  dsimp only
  split
  · refine StageFrame.trans ?_ (crcCompare_frame _)
    exact ⟨rfl, rfl, rfl, rfl, rfl, rfl, rfl, fun _ h => h, fun _ _ => rfl⟩
  · exact ⟨rfl, rfl, rfl, rfl, rfl, rfl, rfl, fun _ h => h, fun _ _ => rfl⟩

@[simp] theorem crcCapture_evq (b : Level) (s : State) : (crcCapture b s).st.evq = s.evq := by
  unfold crcCapture
  dsimp only
  split <;> rfl

@[simp] theorem crcCapture_cr (b : Level) (s : State) : (crcCapture b s).st.cr = s.cr := by
  unfold crcCapture
  dsimp only
  split <;> rfl

@[simp] theorem crcCapture_gf (b : Level) (s : State) : (crcCapture b s).st.gf = s.gf := by
  unfold crcCapture
  dsimp only
  split <;> rfl

@[simp] theorem crcCapture_cmp (b : Level) (s : State) : (crcCapture b s).st.cmp = s.cmp := by
  unfold crcCapture
  dsimp only
  split <;> rfl

@[simp] theorem crcCapture_glitchCnt (b : Level) (s : State) : (crcCapture b s).st.glitchCnt = s.glitchCnt := by
  unfold crcCapture
  dsimp only
  split <;> rfl

theorem crcBit_frame (b : Level) (data stuff : Bool) (s : State) : StageFrame s (crcBit b data stuff s).st := by
  unfold crcBit
  dsimp only
  split
  · exact (crcCover_frame b data stuff s).trans (crcCapture_frame _ _)
  · exact crcCover_frame b data stuff s

@[simp] theorem crcBit_evq (b : Level) (data stuff : Bool) (s : State) : (crcBit b data stuff s).st.evq = s.evq := by
  unfold crcBit
  dsimp only
  split <;> simp

@[simp] theorem crcBit_cr (b : Level) (data stuff : Bool) (s : State) : (crcBit b data stuff s).st.cr = s.cr := by
  unfold crcBit
  dsimp only
  split <;> simp

@[simp] theorem crcBit_gf (b : Level) (data stuff : Bool) (s : State) : (crcBit b data stuff s).st.gf = s.gf := by
  unfold crcBit
  dsimp only
  split <;> simp

@[simp] theorem crcBit_cmp (b : Level) (data stuff : Bool) (s : State) : (crcBit b data stuff s).st.cmp = s.cmp := by
  unfold crcBit
  dsimp only
  split <;> simp

@[simp] theorem crcBit_glitchCnt (b : Level) (data stuff : Bool) (s : State) :
    (crcBit b data stuff s).st.glitchCnt = s.glitchCnt := by
  unfold crcBit
  dsimp only
  split <;> simp

/-- The engine touches the destuffer only to request the region's end. -/
theorem crcBit_ds (b : Level) (data stuff : Bool) (s : State) :
    (crcBit b data stuff s).st.ds = { s.ds with endp := (crcBit b data stuff s).st.ds.endp } := by
  unfold crcBit
  dsimp only
  split
  · unfold crcCapture
    dsimp only
    split <;> simp [crcCompare]
  · simp

/-! ## Destuffer -/

theorem storeRun_frame (c : BitClass) (s : State) : StageFrame s (storeRun c s) := by
  unfold storeRun
  dsimp only
  split
  · refine StageFrame.trans ?_ (setSticky_frame .stuffErr (by decide) _)
    exact ⟨rfl, rfl, rfl, rfl, rfl, rfl, rfl, fun _ h => h, fun _ _ => rfl⟩
  · exact ⟨rfl, rfl, rfl, rfl, rfl, rfl, rfl, fun _ h => h, fun _ _ => rfl⟩

/-- R182, R183: `storeRun` written out as one update. -/
theorem storeRun_eq (c : BitClass) (s : State) :
    storeRun c s = { s with
      sticky := if c.serr then s.sticky ||| Sticky.stuffErr.mask else s.sticky
      ds := { s.ds with cnt := c.cnt, lv := c.lv } } := by
  unfold storeRun
  dsimp only
  split <;> simp_all [setSticky]

theorem countData_frame (d : Bool) (s : State) : StageFrame s (countData d s) := by
  cases d <;> exact ⟨rfl, rfl, rfl, rfl, rfl, rfl, rfl, fun _ h => h, fun _ _ => rfl⟩

theorem regionEnd_frame (s : State) : StageFrame s (regionEnd s) := by
  unfold regionEnd
  split
  · exact ⟨rfl, rfl, rfl, rfl, rfl, rfl, rfl, fun _ h => h, fun _ _ => rfl⟩
  · exact .refl s

/-- The CRC record that `emitCrcRecord` makes, if it makes one. -/
def crcRecords (n : Time) : Option (BitVec 28 × Word) → List Record
  | none => []
  | some (data, aux) => [mkRecord .crc data aux n]

theorem emitCrcRecord_frame (n : Time) (r : Option (BitVec 28 × Word)) (s : State) :
    StageFrame s (emitCrcRecord n r s) := by
  cases r with
  | none => exact .refl s
  | some p => exact emit_frame _ _ _ _ s

theorem emitCrcRecord_appends (n : Time) (r : Option (BitVec 28 × Word)) (s : State) :
    Appends (crcRecords n r) s (emitCrcRecord n r s) := by
  cases r with
  | none => exact .of_eq rfl _
  | some p => exact emit_appends _ _ _ _ s

@[simp] theorem emitCrcRecord_ds (n : Time) (r : Option (BitVec 28 × Word)) (s : State) :
    (emitCrcRecord n r s).ds = s.ds := by
  cases r <;> simp [emitCrcRecord]

@[simp] theorem emitCrcRecord_cc (n : Time) (r : Option (BitVec 28 × Word)) (s : State) :
    (emitCrcRecord n r s).cc = s.cc := by
  cases r <;> simp [emitCrcRecord]

@[simp] theorem emitCrcRecord_cr (n : Time) (r : Option (BitVec 28 × Word)) (s : State) :
    (emitCrcRecord n r s).cr = s.cr := by
  cases r <;> simp [emitCrcRecord]

@[simp] theorem emitCrcRecord_gf (n : Time) (r : Option (BitVec 28 × Word)) (s : State) :
    (emitCrcRecord n r s).gf = s.gf := by
  cases r <;> simp [emitCrcRecord]

@[simp] theorem emitCrcRecord_cmp (n : Time) (r : Option (BitVec 28 × Word)) (s : State) :
    (emitCrcRecord n r s).cmp = s.cmp := by
  cases r <;> simp [emitCrcRecord]

@[simp] theorem emitCrcRecord_crc (n : Time) (r : Option (BitVec 28 × Word)) (s : State) :
    (emitCrcRecord n r s).crc = s.crc := by
  cases r <;> simp [emitCrcRecord]

@[simp] theorem emitCrcRecord_rxcrc (n : Time) (r : Option (BitVec 28 × Word)) (s : State) :
    (emitCrcRecord n r s).rxcrc = s.rxcrc := by
  cases r <;> simp [emitCrcRecord]

@[simp] theorem emitCrcRecord_glitchCnt (n : Time) (r : Option (BitVec 28 × Word)) (s : State) :
    (emitCrcRecord n r s).glitchCnt = s.glitchCnt := by
  cases r <;> simp [emitCrcRecord]

theorem regionBit_frame (n : Time) (b : Level) (sof : Bool) (s : State) : StageFrame s (regionBit n b sof s) := by
  unfold regionBit
  dsimp only
  exact (storeRun_frame _ s).trans ((crcBit_frame _ _ _ _).trans ((countData_frame _ _).trans
    ((emit_frame _ _ _ _ _).trans ((emitCrcRecord_frame _ _ _).trans (regionEnd_frame _)))))

/-- A region bit appends its BIT record and the CRC record of a comparison, both with its time. -/
theorem regionBit_appends (n : Time) (b : Level) (sof : Bool) (s : State) :
    Appends (mkRecord .bit (bitData (regionFlags b sof s)) (s.ds.didx.setWidth 32) n ::
      crcRecords n (regionCrc b s).record) s (regionBit n b sof s) := by
  have h := (emit_appends .bit (bitData (regionFlags b sof s)) (s.ds.didx.setWidth 32) n
    (countData (regionClass b s).data (regionCrc b s).st)).trans
    (emitCrcRecord_appends n (regionCrc b s).record _)
  obtain ⟨new, hn, hl⟩ := h
  exact ⟨new, by simpa [regionBit, regionCrc] using hn, hl⟩

/-- Every sampled bit appends at most a BIT record and then a CRC record, both with its time. -/
theorem destuffBit_appends (n : Time) (b : Level) (sof : Bool) (s : State) :
    ∃ (data : BitVec 28) (aux : Word) (r : Option (BitVec 28 × Word)),
      Appends (mkRecord .bit data aux n :: crcRecords n r) s (destuffBit n b sof s) := by
  unfold destuffBit
  split
  · exact ⟨_, _, _, regionBit_appends n b sof s⟩
  · exact ⟨levelData b, 0#32, none, emit_appends _ _ _ _ _⟩

theorem destuffBit_frame (n : Time) (b : Level) (sof : Bool) (s : State) : StageFrame s (destuffBit n b sof s) := by
  unfold destuffBit
  split
  · exact regionBit_frame n b sof s
  · exact emit_frame _ _ _ _ _

@[simp] theorem regionBit_cr (n : Time) (b : Level) (sof : Bool) (s : State) : (regionBit n b sof s).cr = s.cr := by
  simp [regionBit, regionCrc]

@[simp] theorem regionBit_gf (n : Time) (b : Level) (sof : Bool) (s : State) : (regionBit n b sof s).gf = s.gf := by
  simp [regionBit, regionCrc]

@[simp] theorem regionBit_cmp (n : Time) (b : Level) (sof : Bool) (s : State) : (regionBit n b sof s).cmp = s.cmp := by
  simp [regionBit, regionCrc]

@[simp] theorem regionBit_glitchCnt (n : Time) (b : Level) (sof : Bool) (s : State) :
    (regionBit n b sof s).glitchCnt = s.glitchCnt := by
  simp [regionBit, regionCrc]

/-- R185, R217: what the CRC engine leaves in CRC, RXCRC and its control stands after the bit. -/
@[simp] theorem regionBit_crc (n : Time) (b : Level) (sof : Bool) (s : State) :
    (regionBit n b sof s).crc = (regionCrc b s).st.crc := by
  simp [regionBit]

@[simp] theorem regionBit_rxcrc (n : Time) (b : Level) (sof : Bool) (s : State) :
    (regionBit n b sof s).rxcrc = (regionCrc b s).st.rxcrc := by
  simp [regionBit]

@[simp] theorem regionBit_cc (n : Time) (b : Level) (sof : Bool) (s : State) :
    (regionBit n b sof s).cc = (regionCrc b s).st.cc := by
  simp [regionBit]

/-- The sticky bits after a region bit are those the CRC engine leaves, with at most OVF added. -/
theorem regionBit_sticky (n : Time) (b : Level) (sof : Bool) (s : State) :
    (regionBit n b sof s).sticky = (regionCrc b s).st.sticky ∨
    (regionBit n b sof s).sticky = (regionCrc b s).st.sticky ||| Sticky.ovf.mask := by
  simp only [regionBit, regionEnd_sticky]
  cases (regionCrc b s).record with
  | none => simp only [emitCrcRecord, emit_sticky, countData_sticky]; split <;> simp
  | some p =>
    simp only [emitCrcRecord, emit_sticky, countData_sticky]
    split <;> split <;> simp [BitVec.or_assoc]

@[simp] theorem destuffBit_cr (n : Time) (b : Level) (sof : Bool) (s : State) : (destuffBit n b sof s).cr = s.cr := by
  unfold destuffBit; split <;> simp [outsideBit]

@[simp] theorem destuffBit_gf (n : Time) (b : Level) (sof : Bool) (s : State) : (destuffBit n b sof s).gf = s.gf := by
  unfold destuffBit; split <;> simp [outsideBit]

@[simp] theorem destuffBit_cmp (n : Time) (b : Level) (sof : Bool) (s : State) :
    (destuffBit n b sof s).cmp = s.cmp := by
  unfold destuffBit; split <;> simp [outsideBit]

@[simp] theorem destuffBit_glitchCnt (n : Time) (b : Level) (sof : Bool) (s : State) :
    (destuffBit n b sof s).glitchCnt = s.glitchCnt := by
  unfold destuffBit; split <;> simp [outsideBit]

/-! ## Clock recovery -/

theorem hardSync_frame (s : State) : StageFrame s (hardSync s) where
  params := rfl
  ctrl := rfl
  cfg := rfl
  crcdin := rfl
  irqen := rfl
  time := rfl
  host := rfl
  stickyGrows := (setSticky_frame .sof (by decide) s).stickyGrows
  stickyLow := (setSticky_frame .sof (by decide) s).stickyLow

theorem timingStep_frame (edge : Bool) (s : State) : StageFrame s (timingStep edge s) := by
  unfold timingStep huntStep
  split
  · split
    · exact hardSync_frame s
    · exact .refl s
  · exact ⟨rfl, rfl, rfl, rfl, rfl, rfl, rfl, fun _ h => h, fun _ _ => rfl⟩

@[simp] theorem timingStep_evq (edge : Bool) (s : State) : (timingStep edge s).evq = s.evq := by
  unfold timingStep huntStep
  split
  · split <;> simp
  · rfl

@[simp] theorem timingStep_gf (edge : Bool) (s : State) : (timingStep edge s).gf = s.gf := by
  unfold timingStep huntStep
  split
  · split <;> simp
  · rfl

@[simp] theorem timingStep_cmp (edge : Bool) (s : State) : (timingStep edge s).cmp = s.cmp := by
  unfold timingStep huntStep
  split
  · split <;> simp
  · rfl

@[simp] theorem timingStep_glitchCnt (edge : Bool) (s : State) : (timingStep edge s).glitchCnt = s.glitchCnt := by
  unfold timingStep huntStep
  split
  · split <;> simp
  · rfl

@[simp] theorem timingStep_cfg (edge : Bool) (s : State) : (timingStep edge s).cfg = s.cfg :=
  (timingStep_frame edge s).cfg

theorem sampleStep_frame (n : Time) (f : Level) (s : State) : StageFrame s (sampleStep n f s) := by
  unfold sampleStep
  split
  · refine StageFrame.trans ?_ (destuffBit_frame _ _ _ _)
    exact ⟨rfl, rfl, rfl, rfl, rfl, rfl, rfl, fun _ h => h, fun _ _ => rfl⟩
  · exact .refl s

theorem clockRecoveryStep_frame (n : Time) (f fp : Level) (s : State) :
    StageFrame s (clockRecoveryStep n f fp s) := by
  unfold clockRecoveryStep
  exact (timingStep_frame _ s).trans ((sampleStep_frame n f _).trans
    ⟨rfl, rfl, rfl, rfl, rfl, rfl, rfl, fun _ h => h, fun _ _ => rfl⟩)

theorem clockRecoveryStep_appends (n : Time) (f fp : Level) (s : State) :
    ∃ (data : BitVec 28) (aux : Word) (r : Option (BitVec 28 × Word)),
      Appends (mkRecord .bit data aux n :: crcRecords n r) s (clockRecoveryStep n f fp s) := by
  unfold clockRecoveryStep sampleStep
  split
  · obtain ⟨data, aux, r, new, hn, hl⟩ := destuffBit_appends n f (timingStep (isEdge f fp) s).cr.sofp
      { timingStep (isEdge f fp) s with
        cr := { (timingStep (isEdge f fp) s).cr with smp := true, rsy := false, sofp := false } }
    exact ⟨data, aux, r, new, by simpa using hn, hl⟩
  · exact ⟨0, 0, none, .of_eq (by simp) _⟩

@[simp] theorem clockRecoveryStep_gf (n : Time) (f fp : Level) (s : State) :
    (clockRecoveryStep n f fp s).gf = s.gf := by
  unfold clockRecoveryStep sampleStep; split <;> simp

@[simp] theorem clockRecoveryStep_cmp (n : Time) (f fp : Level) (s : State) :
    (clockRecoveryStep n f fp s).cmp = s.cmp := by
  unfold clockRecoveryStep sampleStep; split <;> simp

@[simp] theorem clockRecoveryStep_glitchCnt (n : Time) (f fp : Level) (s : State) :
    (clockRecoveryStep n f fp s).glitchCnt = s.glitchCnt := by
  unfold clockRecoveryStep sampleStep; split <;> simp

@[simp] theorem clockRecoveryStep_cfg (n : Time) (f fp : Level) (s : State) :
    (clockRecoveryStep n f fp s).cfg = s.cfg := (clockRecoveryStep_frame n f fp s).cfg

/-! ## Comparator, glitch detection, filter -/

theorem comparatorStep_frame (n : Time) (v : Word) (s : State) : StageFrame s (comparatorStep n v s) := by
  unfold comparatorStep
  dsimp only
  split
  · refine StageFrame.trans ?_ (emit_frame _ _ _ _ _)
    exact ⟨rfl, rfl, rfl, rfl, rfl, rfl, rfl, fun _ h => h, fun _ _ => rfl⟩
  · exact ⟨rfl, rfl, rfl, rfl, rfl, rfl, rfl, fun _ h => h, fun _ _ => rfl⟩

theorem comparatorStep_appends (n : Time) (v : Word) (s : State) :
    ∃ data : BitVec 28, Appends [mkRecord .level data 0#32 n] s (comparatorStep n v s) := by
  unfold comparatorStep
  dsimp only
  split
  · obtain ⟨new, hn, hl⟩ := emit_appends .level
      (levelData (decideLevel s.cfg (sampleValue s.ctrl v) s.cmp.lvl)) 0#32 n
      { s with cmp := { lvl := decideLevel s.cfg (sampleValue s.ctrl v) s.cmp.lvl } }
    exact ⟨_, new, hn, hl⟩
  · exact ⟨0, .of_eq rfl _⟩

@[simp] theorem comparatorStep_lvl (n : Time) (v : Word) (s : State) :
    (comparatorStep n v s).cmp.lvl = decideLevel s.cfg (sampleValue s.ctrl v) s.cmp.lvl := by
  unfold comparatorStep; dsimp only; split <;> simp

@[simp] theorem comparatorStep_gf (n : Time) (v : Word) (s : State) : (comparatorStep n v s).gf = s.gf := by
  unfold comparatorStep; dsimp only; split <;> simp

@[simp] theorem comparatorStep_cr (n : Time) (v : Word) (s : State) : (comparatorStep n v s).cr = s.cr := by
  unfold comparatorStep; dsimp only; split <;> simp

@[simp] theorem comparatorStep_ds (n : Time) (v : Word) (s : State) : (comparatorStep n v s).ds = s.ds := by
  unfold comparatorStep; dsimp only; split <;> simp

@[simp] theorem comparatorStep_cc (n : Time) (v : Word) (s : State) : (comparatorStep n v s).cc = s.cc := by
  unfold comparatorStep; dsimp only; split <;> simp

@[simp] theorem comparatorStep_glitchCnt (n : Time) (v : Word) (s : State) :
    (comparatorStep n v s).glitchCnt = s.glitchCnt := by
  unfold comparatorStep; dsimp only; split <;> simp

@[simp] theorem comparatorStep_cfg (n : Time) (v : Word) (s : State) : (comparatorStep n v s).cfg = s.cfg :=
  (comparatorStep_frame n v s).cfg

theorem reportGlitch_frame (s : State) : StageFrame s (reportGlitch s) := by
  unfold reportGlitch
  dsimp only
  split
  · refine StageFrame.trans ?_ (StageFrame.trans (setSticky_frame .glitch (by decide) _) (emit_frame _ _ _ _ _))
    exact ⟨rfl, rfl, rfl, rfl, rfl, rfl, rfl, fun _ h => h, fun _ _ => rfl⟩
  · exact .refl s

@[simp] theorem reportGlitch_gf (s : State) : (reportGlitch s).gf = s.gf := by
  unfold reportGlitch; dsimp only; split <;> simp

@[simp] theorem reportGlitch_cr (s : State) : (reportGlitch s).cr = s.cr := by
  unfold reportGlitch; dsimp only; split <;> simp

@[simp] theorem reportGlitch_ds (s : State) : (reportGlitch s).ds = s.ds := by
  unfold reportGlitch; dsimp only; split <;> simp

@[simp] theorem reportGlitch_cc (s : State) : (reportGlitch s).cc = s.cc := by
  unfold reportGlitch; dsimp only; split <;> simp

theorem glitchDetect_frame (n : Time) (raw : Level) (s : State) : StageFrame s (glitchDetect n raw s) := by
  unfold glitchDetect
  split
  · exact ⟨rfl, rfl, rfl, rfl, rfl, rfl, rfl, fun _ h => h, fun _ _ => rfl⟩
  · exact (reportGlitch_frame s).trans ⟨rfl, rfl, rfl, rfl, rfl, rfl, rfl, fun _ h => h, fun _ _ => rfl⟩

theorem glitchDetect_appends (n : Time) (raw : Level) (s : State) :
    ∃ (data : BitVec 28) (aux : Word),
      Appends [mkRecord .glitch data aux s.gf.runstart] s (glitchDetect n raw s) := by
  unfold glitchDetect
  split
  · exact ⟨0, 0, .of_eq rfl _⟩
  · unfold reportGlitch
    dsimp only
    split
    · obtain ⟨new, hn, hl⟩ := emit_appends .glitch (levelData s.gf.runlv) (s.gf.runlen.setWidth 32) s.gf.runstart
        (setSticky .glitch { s with glitchCnt := sat 32 (s.glitchCnt.toNat + 1) })
      exact ⟨_, _, new, hn, hl⟩
    · exact ⟨0, 0, .of_eq rfl _⟩

/-- GLITCH_CNT counts at most one glitch a tick, saturating (R35, R140). -/
theorem glitchDetect_glitchCnt (n : Time) (raw : Level) (s : State) :
    (glitchDetect n raw s).glitchCnt = s.glitchCnt ∨
    (glitchDetect n raw s).glitchCnt = sat 32 (s.glitchCnt.toNat + 1) := by
  unfold glitchDetect reportGlitch
  dsimp only
  split
  · exact .inl rfl
  · split
    · exact .inr (by simp)
    · exact .inl rfl

/-- The level decided before detection is untouched by it. -/
@[simp] theorem glitchDetect_rq (n : Time) (raw : Level) (s : State) : (glitchDetect n raw s).gf.rq = s.gf.rq := by
  unfold glitchDetect; split <;> simp

@[simp] theorem glitchDetect_flt (n : Time) (raw : Level) (s : State) : (glitchDetect n raw s).gf.flt = s.gf.flt := by
  unfold glitchDetect; split <;> simp

@[simp] theorem glitchDetect_cr (n : Time) (raw : Level) (s : State) : (glitchDetect n raw s).cr = s.cr := by
  unfold glitchDetect; split <;> simp

@[simp] theorem glitchDetect_ds (n : Time) (raw : Level) (s : State) : (glitchDetect n raw s).ds = s.ds := by
  unfold glitchDetect; split <;> simp

@[simp] theorem glitchDetect_cc (n : Time) (raw : Level) (s : State) : (glitchDetect n raw s).cc = s.cc := by
  unfold glitchDetect; split <;> simp

theorem glitchFilter_frame (n : Time) (raw : Level) (s : State) : StageFrame s (glitchFilter n raw s) := by
  unfold glitchFilter
  dsimp only
  split
  · refine StageFrame.trans ?_ (clockRecoveryStep_frame _ _ _ _)
    exact ⟨rfl, rfl, rfl, rfl, rfl, rfl, rfl, fun _ h => h, fun _ _ => rfl⟩
  · exact ⟨rfl, rfl, rfl, rfl, rfl, rfl, rfl, fun _ h => h, fun _ _ => rfl⟩

theorem glitchFilter_appends (n : Time) (raw : Level) (s : State) :
    ∃ (data : BitVec 28) (aux : Word) (r : Option (BitVec 28 × Word)),
      Appends (mkRecord .bit data aux (n - BitVec.ofNat 64 (s.window - 1)) ::
        crcRecords (n - BitVec.ofNat 64 (s.window - 1)) r) s (glitchFilter n raw s) := by
  unfold glitchFilter
  dsimp only
  split
  · obtain ⟨data, aux, r, new, hn, hl⟩ := clockRecoveryStep_appends (n - BitVec.ofNat 64 (s.window - 1))
      (filterDecision (s.gf.rq ++ [raw]) s.gf.flt) s.gf.flt
      { s with gf := { s.gf with rq := (s.gf.rq ++ [raw]).tail, flt := filterDecision (s.gf.rq ++ [raw]) s.gf.flt } }
    exact ⟨data, aux, r, new, hn, hl⟩
  · exact ⟨0, 0, none, .of_eq rfl _⟩

@[simp] theorem glitchFilter_glitchCnt (n : Time) (raw : Level) (s : State) :
    (glitchFilter n raw s).glitchCnt = s.glitchCnt := by
  unfold glitchFilter; dsimp only; split <;> simp

@[simp] theorem glitchFilter_cmp (n : Time) (raw : Level) (s : State) : (glitchFilter n raw s).cmp = s.cmp := by
  unfold glitchFilter; dsimp only; split <;> simp

end Sys2Proof.Laws
end

