-- ==== Sys2Proof/Tests/Slice0.lean ====
section
/-! SUPPORT. Tests. Expected values come from spec/95_test_vectors.md (named V-…, P…) or from the rule named in the
comment, worked out by hand; the model's own answers are not their source. At the end, a witness for the hypotheses of
every obligation that has some. -/

namespace Sys2Proof.Tests

open Sys2Proof.Machine Sys2Proof.Safety

/-! ## WellFormed refuses an ill-formed term, one for each check -/

/-- R83: 0x70 lies above the range 0x68 to 0x6C, 0x64 below it. -/
theorem test_wf_refuses_reserved68 :
    Instr.wf (.rdReserved68 0x70#8) = false ∧ Instr.wf (.rdReserved68 0x64#8) = false ∧
    Instr.wf (.wrReserved68 0x70#8 0#32) = false ∧ Instr.wf (.rdReserved68 0x68#8) = true := by decide

/-- R83: 0x6C lies below the range 0x70 to 0x7C, 0x80 above it. -/
theorem test_wf_refuses_reserved70 :
    Instr.wf (.rdReserved70 0x6C#8) = false ∧ Instr.wf (.wrReserved70 0x80#8 0#32) = false ∧
    Instr.wf (.wrReserved70 0x7C#8 0#32) = true := by decide

/-- R83, R62: 0x7C lies below the range 0x80 to 0xFC; 0x82 is not word-aligned. -/
theorem test_wf_refuses_reserved80 :
    Instr.wf (.rdReserved80 0x7C#8) = false ∧ Instr.wf (.wrReserved80 0x82#8 0#32) = false ∧
    Instr.wf (.rdReserved80 0xFC#8) = true := by decide

/-- R100: 0x00000001 is POP and 0x00001F04 is CRC_FEED, so neither is a reserved word; 0x00000009 is one. -/
theorem test_wf_refuses_defined_words :
    Instr.wf (.cmdReserved 0x00000001#32) = false ∧ Instr.wf (.cmdReserved 0x00001F04#32) = false ∧
    Instr.wf (.cmdReserved 0x00000009#32) = true := by decide

/-! ## Decoding: every row's word, written out bit by bit from R83 and R100 -/

/-- R83, read rows 0x00 to 0x30: W = 0, OFF[7:2] written out. -/
theorem test_decode_reads_low :
    decode (.mmio 0b0000000#7 0#32) = .rdId ∧
    decode (.mmio 0b0000001#7 0#32) = .rdCtrl ∧
    decode (.mmio 0b0000010#7 0#32) = .rdStatus ∧
    decode (.mmio 0b0000011#7 0#32) = .rdHthr ∧
    decode (.mmio 0b0000100#7 0#32) = .rdLthr ∧
    decode (.mmio 0b0000101#7 0#32) = .rdNbp ∧
    decode (.mmio 0b0000110#7 0#32) = .rdSpo ∧
    decode (.mmio 0b0000111#7 0#32) = .rdSjw ∧
    decode (.mmio 0b0001000#7 0#32) = .rdMgw ∧
    decode (.mmio 0b0001001#7 0#32) = .rdCrc ∧
    decode (.mmio 0b0001010#7 0#32) = .rdRxcrc ∧
    decode (.mmio 0b0001011#7 0#32) = .rdCrcdin ∧
    decode (.mmio 0b0001100#7 0#32) = .rdCmd := by decide

/-- R83, read rows 0x34 to 0x64. -/
theorem test_decode_reads_high :
    decode (.mmio 0b0001101#7 0#32) = .rdEvtHead ∧
    decode (.mmio 0b0001110#7 0#32) = .rdEvtAux ∧
    decode (.mmio 0b0001111#7 0#32) = .rdEvtTlo ∧
    decode (.mmio 0b0010000#7 0#32) = .rdEvtThi ∧
    decode (.mmio 0b0010001#7 0#32) = .rdEvtCnt ∧
    decode (.mmio 0b0010010#7 0#32) = .rdTimeLo ∧
    decode (.mmio 0b0010011#7 0#32) = .rdTimeHi ∧
    decode (.mmio 0b0010100#7 0#32) = .rdGlitchCnt ∧
    decode (.mmio 0b0010101#7 0#32) = .rdIrqen ∧
    decode (.mmio 0b0010110#7 0#32) = .rdSample ∧
    decode (.mmio 0b0010111#7 0#32) = .rdCrstate ∧
    decode (.mmio 0b0011000#7 0#32) = .rdDsstate ∧
    decode (.mmio 0b0011001#7 0#32) = .rdIdlecnt := by decide

/-- R83, write rows 0x00 to 0x30: W = 1. -/
theorem test_decode_writes_low :
    decode (.mmio 0b1000000#7 0x80000001#32) = .wrId 0x80000001#32 ∧
    decode (.mmio 0b1000001#7 0x80000001#32) = .wrCtrl 0x80000001#32 ∧
    decode (.mmio 0b1000010#7 0x80000001#32) = .wrStatus 0x80000001#32 ∧
    decode (.mmio 0b1000011#7 0x80000001#32) = .wrHthr 0x80000001#32 ∧
    decode (.mmio 0b1000100#7 0x80000001#32) = .wrLthr 0x80000001#32 ∧
    decode (.mmio 0b1000101#7 0x80000001#32) = .wrNbp 0x80000001#32 ∧
    decode (.mmio 0b1000110#7 0x80000001#32) = .wrSpo 0x80000001#32 ∧
    decode (.mmio 0b1000111#7 0x80000001#32) = .wrSjw 0x80000001#32 ∧
    decode (.mmio 0b1001000#7 0x80000001#32) = .wrMgw 0x80000001#32 ∧
    decode (.mmio 0b1001001#7 0x80000001#32) = .wrCrc 0x80000001#32 ∧
    decode (.mmio 0b1001010#7 0x80000001#32) = .wrRxcrc 0x80000001#32 ∧
    decode (.mmio 0b1001011#7 0x80000001#32) = .wrCrcdin 0x80000001#32 ∧
    decode (.mmio 0b1001100#7 0x80000001#32) = .wrCmd 0x80000001#32 := by decide

/-- R83, write rows 0x34 to 0x64. -/
theorem test_decode_writes_high :
    decode (.mmio 0b1001101#7 0x80000001#32) = .wrEvtHead 0x80000001#32 ∧
    decode (.mmio 0b1001110#7 0x80000001#32) = .wrEvtAux 0x80000001#32 ∧
    decode (.mmio 0b1001111#7 0x80000001#32) = .wrEvtTlo 0x80000001#32 ∧
    decode (.mmio 0b1010000#7 0x80000001#32) = .wrEvtThi 0x80000001#32 ∧
    decode (.mmio 0b1010001#7 0x80000001#32) = .wrEvtCnt 0x80000001#32 ∧
    decode (.mmio 0b1010010#7 0x80000001#32) = .wrTimeLo 0x80000001#32 ∧
    decode (.mmio 0b1010011#7 0x80000001#32) = .wrTimeHi 0x80000001#32 ∧
    decode (.mmio 0b1010100#7 0x80000001#32) = .wrGlitchCnt 0x80000001#32 ∧
    decode (.mmio 0b1010101#7 0x80000001#32) = .wrIrqen 0x80000001#32 ∧
    decode (.mmio 0b1010110#7 0x80000001#32) = .wrSample 0x80000001#32 ∧
    decode (.mmio 0b1010111#7 0x80000001#32) = .wrCrstate 0x80000001#32 ∧
    decode (.mmio 0b1011000#7 0x80000001#32) = .wrDsstate 0x80000001#32 ∧
    decode (.mmio 0b1011001#7 0x80000001#32) = .wrIdlecnt 0x80000001#32 := by decide

/-- R83, the reserved rows, at the first and the last offset of each. -/
theorem test_decode_reserved_offsets :
    decode (.mmio 0b0011010#7 0#32) = .rdReserved68 0x68#8 ∧
    decode (.mmio 0b0011011#7 0#32) = .rdReserved68 0x6C#8 ∧
    decode (.mmio 0b0011100#7 0#32) = .rdReserved70 0x70#8 ∧
    decode (.mmio 0b0011111#7 0#32) = .rdReserved70 0x7C#8 ∧
    decode (.mmio 0b0100000#7 0#32) = .rdReserved80 0x80#8 ∧
    decode (.mmio 0b0111111#7 0#32) = .rdReserved80 0xFC#8 ∧
    decode (.mmio 0b1011010#7 5#32) = .wrReserved68 0x68#8 5#32 ∧
    decode (.mmio 0b1011101#7 5#32) = .wrReserved70 0x74#8 5#32 ∧
    decode (.mmio 0b1100000#7 5#32) = .wrReserved80 0x80#8 5#32 := by decide

/-- R100, the command rows; CRC_FEED's NM1 stands at bits 12 to 8. -/
theorem test_decode_commands :
    decode (.cmdWord 0b00000000000000000000000000000000#32) = .cmdNop ∧
    decode (.cmdWord 0b00000000000000000000000000000001#32) = .cmdPop ∧
    decode (.cmdWord 0b00000000000000000000000000000010#32) = .cmdFlush ∧
    decode (.cmdWord 0b00000000000000000000000000000011#32) = .cmdCrcClear ∧
    decode (.cmdWord 0b00000000000000000001011000000100#32) = .cmdCrcFeed 0b10110#5 ∧
    decode (.cmdWord 0b00000000000000000000000000000101#32) = .cmdCrcStop ∧
    decode (.cmdWord 0b00000000000000000000000000000110#32) = .cmdRelease ∧
    decode (.cmdWord 0b00000000000000000000000000000111#32) = .cmdGlitchClr ∧
    decode (.cmdWord 0b00000000000000000000000000001000#32) = .cmdReset := by decide

/-- R101, V-H18 to V-H20: a must-be-zero bit or an opcode from 0x09 on makes a reserved word. -/
theorem test_decode_reserved_words :
    decode (.cmdWord 0x00000100#32) = .cmdReserved 0x00000100#32 ∧
    decode (.cmdWord 0x00002004#32) = .cmdReserved 0x00002004#32 ∧
    decode (.cmdWord 0x00000009#32) = .cmdReserved 0x00000009#32 ∧
    decode (.cmdWord 0x80000008#32) = .cmdReserved 0x80000008#32 := by decide

/-- R62, R80: an access that is no 4-byte access at an aligned offset decodes to nothing, by name. -/
theorem test_decode_rejects_by_name :
    decodeAccess false 0x01#8 1 0#32 = .error .wrongWidth ∧ decodeAccess true 0x58#8 2 0#32 = .error .wrongWidth ∧
    decodeAccess false 0x02#8 4 0#32 = .error .misaligned := by decide

/-- The table's numbers: one-byte rows are MMIO keys, 32-bit rows are CMD words. -/
theorem test_decode_table_words :
    decodeTableWord 8 0x56 = some (.wrSample 0#32) ∧ decodeTableWord 32 0x0704 = some (.cmdCrcFeed 7#5) ∧
    decodeTableWord 8 0x80 = none ∧ decodeTableWord 16 0 = none := by decide

/-! ## One step of one instruction -/

/-- The state after an instruction (the state itself where it does not answer a next one). -/
def after (i : Instr) (s : State) : State :=
  match exec i s with
  | .next t => t
  | .fault _ => s
  | .refused _ => s

/-- The word an instruction returns to the host. -/
def ret (i : Instr) (s : State) : Option Word := (after i s).host.returned.getLast?

/-- A block set up as in P3: HTHR 60, LTHR 40, NBP 8, SPO 5, SJW 2, MGW 0, single-channel, CRCM = 1, enabled. -/
def enabled : State := { State.reset with
  ctrl := { en := true, single := true, inv := false, crcm := true, levev := false }
  cfg := { hthr := 60#32, lthr := 40#32, nbp := 8#16, spo := 5#16, sjw := 2#16, mgw := 0#8 } }

/-- The block of `enabled` in SYNC, in an open region under coverage, at phase `ph` of an 8-sample bit. -/
def inFrame (ph : BitVec 16) (smp : Bool) (cnt : BitVec 3) (lv : Level) : State := { enabled with
  cr := { crm := .sync, idlecnt := 0#16, ph := ph, blen := 8#16, smp := smp, rsy := false, sofp := false }
  ds := { dsAct := true, cnt := cnt, lv := lv, endp := false, didx := 5#16 }
  cc := { crcph := .cover, stopp := false, rxn := 0#4 } }

/-- One queued record, the SOF of P3, at a time beyond 32 bits. -/
def queued : State := { State.reset with
  evq := [{ head := 0x30000039#32, aux := 7#32, time := 0x0000000500000015#64 }] }

/-- A block that remembers every sticky condition. -/
def flagged : State := { State.reset with sticky := 0b111111111#9 }

/-- V-H1. -/
theorem test_rd_id : ret .rdId State.reset = some 0x43414E31#32 := by decide

/-- V-H2: a write to ID sets ACC_ERR (bit 1) and changes nothing else. -/
theorem test_wr_id : after (.wrId 0#32) enabled = { enabled with sticky := 0b000000010#9 } := by decide

/-- V-H11, P4: disabling keeps the fields. -/
theorem test_disable_keeps_fields : ret .rdCtrl (after (.wrCtrl 0#32) enabled) = some 0x0000000A#32 := by decide

/-- V-H8: the fields are stored, EN stays 0, no error. -/
theorem test_wr_ctrl_stores_fields :
    ret .rdCtrl (after (.wrCtrl 0xFFFFFFFE#32) State.reset) = some 0x0000001E#32 ∧
    (after (.wrCtrl 0xFFFFFFFE#32) State.reset).sticky = 0#9 := by decide

/-- V-H9: HT ≤ LT refuses the enable with SETUP_ERR. -/
theorem test_enable_refused :
    ret .rdCtrl (after (.wrCtrl 0x0B#32) State.reset) = some 0x0000000A#32 ∧
    (after (.wrCtrl 0x0B#32) State.reset).sticky = 0b000000001#9 := by decide

/-- V-H12: writing CTRL with bit 0 set while EN = 1 does nothing. -/
theorem test_wr_ctrl_while_enabled : after (.wrCtrl 0x1F#32) enabled = enabled := by decide

/-- P5's STATUS without its sticky bits and with EVQ empty: LVL, FLT, SYNC, REGION and GATE set (R86). -/
theorem test_rd_status : ret .rdStatus (inFrame 1#16 false 1#3 .dominant) = some 0x001F0000#32 := by decide

/-- V-H14, and a write of 1 to some bits only (P4: `clear 0x3`). -/
theorem test_wr_status :
    (after (.wrStatus 0xFFFFFFFF#32) flagged).sticky = 0#9 ∧
    (after (.wrStatus 0x3#32) flagged).sticky = 0b111111100#9 := by decide

/-- V-H6: HTHR holds −5. -/
theorem test_hthr : ret .rdHthr (after (.wrHthr 0xFFFFFFFB#32) State.reset) = some 0xFFFFFFFB#32 := by decide

/-- V-H10: HTHR is locked while EN = 1. -/
theorem test_hthr_locked : after (.wrHthr 10#32) enabled = { enabled with sticky := 0b000000010#9 } := by decide

/-- R88. -/
theorem test_lthr : ret .rdLthr (after (.wrLthr 0x80000000#32) State.reset) = some 0x80000000#32 := by decide

/-- V-H4: NBP keeps the low 16 bits. -/
theorem test_nbp : ret .rdNbp (after (.wrNbp 0x12345#32) State.reset) = some 0x00002345#32 := by decide

/-- R89. -/
theorem test_spo : ret .rdSpo (after (.wrSpo 0xABCD0005#32) State.reset) = some 0x00000005#32 := by decide

/-- R89. -/
theorem test_sjw : ret .rdSjw (after (.wrSjw 0x0001FFFF#32) State.reset) = some 0x0000FFFF#32 := by decide

/-- V-H5: MGW keeps the low 8 bits. -/
theorem test_mgw : ret .rdMgw (after (.wrMgw 0x1FF#32) State.reset) = some 0x000000FF#32 := by decide

/-- V-CRC2, V-CRC1, V-CRC3, V-CRC4, V-CRC5. -/
theorem test_crc_step :
    crcStep 0#15 false = 0#15 ∧ crcStep 0#15 true = 0x4599#15 ∧ crcStep 0x4000#15 false = 0x4599#15 ∧
    crcStep 0x4000#15 true = 0#15 ∧ crcStep 0x7FFF#15 true = 0x7FFE#15 := by decide

/-- V-CRC7: the CRC of the byte 0x31, read from CRC after a CRC_FEED of 8 bits (NM1 = 7). -/
theorem test_crc_feed :
    ret .rdCrc (after (.cmdCrcFeed 7#5) { State.reset with crcdin := 0x31#32 }) = some 0x00003320#32 := by decide

/-- V-CRC8: 32 bits with NM1 = 31, by a CMD write. -/
theorem test_wr_cmd_crc_feed :
    (after (.wrCmd 0x00001F04#32) { State.reset with crc := 0x4599#15, crcdin := 1#32 }).crc = 0x2271#15 := by
  decide +kernel

/-- R91, R241. -/
theorem test_rxcrc :
    ret .rdRxcrc { State.reset with rxcrc := 0x7FFF#15 } = some 0x00007FFF#32 ∧
    after (.wrRxcrc 1#32) State.reset = { State.reset with sticky := 0b000000010#9 } := by decide

/-- R248: CRCDIN is written while EN = 1 too; CRC is not touched. -/
theorem test_crcdin : after (.wrCrcdin 0x31323334#32) enabled = { enabled with crcdin := 0x31323334#32 } := by decide

/-- V-H22. -/
theorem test_write_only_reads_zero : ret .rdCmd enabled = some 0#32 ∧ ret .rdSample enabled = some 0#32 := by decide

/-- R263, R109: the head record is shown word by word. -/
theorem test_rd_evt :
    ret .rdEvtHead queued = some 0x30000039#32 ∧ ret .rdEvtAux queued = some 7#32 ∧
    ret .rdEvtTlo queued = some 0x15#32 ∧ ret .rdEvtThi queued = some 5#32 ∧ ret .rdEvtCnt queued = some 1#32 := by
  decide

/-- V-E6. -/
theorem test_rd_evt_empty : ret .rdEvtHead State.reset = some 0#32 ∧ ret .rdEvtCnt State.reset = some 0#32 := by decide

/-- R265. -/
theorem test_rd_time :
    ret .rdTimeLo { State.reset with time := 0x00000001FFFFFFFE#64 } = some 0xFFFFFFFE#32 ∧
    ret .rdTimeHi { State.reset with time := 0x00000001FFFFFFFE#64 } = some 1#32 := by decide

/-- R242, R241. -/
theorem test_glitch_cnt :
    ret .rdGlitchCnt { State.reset with glitchCnt := 3#32 } = some 3#32 ∧
    (after (.wrGlitchCnt 0#32) { State.reset with glitchCnt := 3#32 }).glitchCnt = 3#32 := by decide

/-- V-H7. -/
theorem test_irqen : ret .rdIrqen (after (.wrIrqen 0xFFFFFFFF#32) enabled) = some 0x000003FF#32 := by decide

/-- V-H13: a sample while EN = 0 is refused; TIME is unchanged. -/
theorem test_wr_sample_disabled :
    after (.wrSample 0x64#32) State.reset = { State.reset with sticky := 0b000000010#9 } := by decide

/-- P2, V-CMP1: the first sample makes a LEVEL record (D, t = 0) and TIME advances. -/
theorem test_wr_sample_level :
    (after (.wrSample 0x000003E8#32) { enabled with ctrl := { enabled.ctrl with levev := true } }).evq =
      [{ head := 0x10000000#32, aux := 0#32, time := 0#64 }] ∧
    (after (.wrSample 0x000003E8#32) enabled).time = 1#64 := by decide

/-- V-CMP4 (INV), V-CMP5 (SINGLE ignores L), V-CMP6 (no overflow), V-CMP7. -/
theorem test_sample_value :
    sampleValue { enabled.ctrl with single := false, inv := true } 0x0000FF9C#32 = 100 ∧
    sampleValue enabled.ctrl 0x7FFF0005#32 = 5 ∧
    sampleValue { enabled.ctrl with single := false } 0x80007FFF#32 = 65535 ∧
    sampleValue { enabled.ctrl with inv := true } 0x00008000#32 = 32768 := by decide

/-- V-CMP2 (V = HT), V-CMP3 (V = LT), V-CMP8: equality crosses neither threshold. -/
theorem test_comparator_equality :
    decideLevel { enabled.cfg with hthr := 900#32, lthr := 500#32 } 900 .recessive = .recessive ∧
    decideLevel { enabled.cfg with hthr := 900#32, lthr := 500#32 } 500 .dominant = .dominant ∧
    decideLevel { enabled.cfg with hthr := 65535#32, lthr := 0#32 } 65535 .recessive = .recessive := by decide

/-- V-GF1, the tick of sample 3: the dominant run of length 1 that began at 2 is counted, flagged and recorded. -/
theorem test_glitch :
    let s := { enabled with
      cfg := { enabled.cfg with mgw := 3#8 }
      gf := { GlitchFilter.init with runlv := .dominant, runlen := 1#16, runstart := 2#64 } }
    (glitchDetect 3#64 .recessive s).evq = [{ head := 0x20000000#32, aux := 1#32, time := 2#64 }] ∧
    (glitchDetect 3#64 .recessive s).glitchCnt = 1#32 ∧ (glitchDetect 3#64 .recessive s).sticky = 0b000010000#9 := by
  decide

/-- V-CR1 and V-CR4: late edges move the phase back by min(PH, SJW); V-CR2 and V-CR3: early edges end the bit. -/
theorem test_soft_resync :
    (softResync 8#16 2#16 true { (inFrame 1#16 false 1#3 .dominant).cr with ph := 1#16 }).ph = 0#16 ∧
    (softResync 8#16 2#16 true { (inFrame 1#16 false 1#3 .dominant).cr with ph := 3#16 }).ph = 1#16 ∧
    (softResync 8#16 2#16 true { (inFrame 1#16 true 1#3 .dominant).cr with ph := 6#16 }).ph = 0#16 ∧
    (softResync 8#16 2#16 true { (inFrame 1#16 true 1#3 .dominant).cr with ph := 5#16 }).blen = 6#16 := by decide

/-- P3, t = 21: the SOF is recorded with flags G, F and C. -/
theorem test_bit_record :
    (destuffBit 21#64 .dominant true { inFrame 5#16 true 0#3 .recessive with
      ds := { (regionOpen State.reset).ds with dsAct := true } }).evq =
      [{ head := 0x30000038#32, aux := 0#32, time := 21#64 }] := by decide

/-- V-DS1, the 6th bit: a stuff bit, aux 5, not counted; CRCM = 1 does not feed it. -/
theorem test_stuff_bit :
    (destuffBit 61#64 .recessive false (inFrame 5#16 true 5#3 .dominant)).evq =
      [{ head := 0x3000000B#32, aux := 5#32, time := 61#64 }] ∧
    (destuffBit 61#64 .recessive false (inFrame 5#16 true 5#3 .dominant)).ds.didx = 5#16 := by decide

/-- V-DS2 and variant d of section 1.6: the 6th identical bit is data with SERR, head 0x3000002C, and STUFF_ERR. -/
theorem test_stuff_violation :
    (destuffBit 61#64 .dominant false (inFrame 5#16 true 5#3 .dominant)).evq =
      [{ head := 0x3000002C#32, aux := 5#32, time := 61#64 }] ∧
    (destuffBit 61#64 .dominant false (inFrame 5#16 true 5#3 .dominant)).sticky = 0b000100000#9 := by decide

/-- P3, t = 477: the 15th CRC bit makes the BIT record, then the CRC record 0x40000E8A, and closes the region. -/
theorem test_crc_compare :
    let s := { inFrame 5#16 true 1#3 .recessive with
      crc := 0x0E8A#15, rxcrc := 0x0745#15, cc := { crcph := .recv, stopp := false, rxn := 14#4 } }
    ((destuffBit 477#64 .dominant false s).evq.map Record.head) = [0x30000048#32, 0x40000E8A#32] ∧
    (destuffBit 477#64 .dominant false s).sticky = 0b010000000#9 ∧
    (destuffBit 477#64 .dominant false s).ds.dsAct = false := by decide

/-- P5: CRSTATE 0x00080005 and DSSTATE 0x00002049 after the last sample. -/
theorem test_rd_crstate : ret .rdCrstate (inFrame 5#16 true 1#3 .recessive) = some 0x00080005#32 := by decide

/-- P5: CNT 1, LV R, CRCPH COVER, SMP. -/
theorem test_rd_dsstate : ret .rdDsstate (inFrame 5#16 true 1#3 .recessive) = some 0x00002049#32 := by decide

/-- V-CR6. -/
theorem test_rd_idlecnt : ret .rdIdlecnt { enabled with cr := { enabled.cr with idlecnt := 8#16 } } = some 8#32 := by
  decide

/-- V-H3: a reserved offset reads 0, and both directions set ACC_ERR. -/
theorem test_reserved_offset :
    ret (.rdReserved68 0x68#8) (after (.wrReserved68 0x68#8 5#32) State.reset) = some 0#32 ∧
    (after (.wrReserved80 0xFC#8 5#32) State.reset).sticky = 0b000000010#9 ∧
    (after (.rdReserved70 0x70#8) State.reset).sticky = 0b000000010#9 := by decide

/-- R252, V-H15. -/
theorem test_pop : (after .cmdPop queued).evq = [] ∧ after .cmdPop State.reset = State.reset := by decide

/-- R253: FLUSH empties EVQ and keeps OVF. -/
theorem test_flush :
    after .cmdFlush { queued with sticky := 0b000001000#9 } = { queued with sticky := 0b000001000#9, evq := [] } := by
  decide

/-- R254. -/
theorem test_crc_clear : (after .cmdCrcClear { enabled with crc := 0x1234#15 }).crc = 0#15 := by decide

/-- V-H16, and R256 in a covered region. -/
theorem test_crc_stop :
    (after .cmdCrcStop State.reset).sticky = 0b000000100#9 ∧
    (after .cmdCrcStop (inFrame 5#16 true 1#3 .recessive)).cc.stopp = true := by decide

/-- V-H17. -/
theorem test_release_hunt : after .cmdRelease State.reset = State.reset := by decide

/-- P5: after RELEASE, STATUS has no SYNC, REGION or GATE, DSSTATE is 8, CRSTATE 0, IDLECNT is kept. -/
theorem test_release_sync :
    let t := after .cmdRelease { inFrame 5#16 true 1#3 .recessive with cr := { (inFrame 5#16 true 1#3 .recessive).cr with
      idlecnt := 6#16 } }
    ret .rdStatus t = some 0x00030000#32 ∧ ret .rdDsstate t = some 8#32 ∧ ret .rdCrstate t = some 0#32 ∧
    ret .rdIdlecnt t = some 6#32 := by decide

/-- R258: GLITCH_CLR clears the count and keeps the sticky bit. -/
theorem test_glitch_clr :
    after .cmdGlitchClr { flagged with glitchCnt := 5#32 } = flagged := by decide

/-- V-H21: RESET clears the configuration, CTRL, IRQEN and CRCDIN too. -/
theorem test_reset :
    after (.wrCmd 0x00000008#32) { inFrame 5#16 true 1#3 .recessive with crcdin := 9#32, irqen := 3#10 } = State.reset := by
  decide

/-- V-H18 to V-H20: reserved CMD words set CMD_ERR and are not executed. -/
theorem test_wr_cmd_reserved :
    after (.wrCmd 0x00000109#32) queued = { queued with sticky := 0b000000100#9 } ∧
    after (.cmdReserved 0x00000101#32) queued = { queued with sticky := 0b000000100#9 } := by decide

/-- R251. -/
theorem test_nop : after .cmdNop queued = queued ∧ after (.wrCmd 0#32) queued = queued := by decide

/-- V-H23: a byte read at offset 0x01 returns 0 and sets ACC_ERR. -/
theorem test_step_illegal :
    step { State.reset with host := { pending := [.access { write := false, addr := 1, size := 1, data := 0#32 }]
                                      returned := [] } } =
      .next { State.reset with sticky := 0b000000010#9, host := { pending := [], returned := [0#32] } } := rfl

/-- The host's question: the table's word runs as the first instruction after reset. -/
theorem test_with_fetch_word :
    step (State.reset.withFetchWord 8 0x4B) = exec (.wrCrcdin 0#32) State.reset ∧
    step (State.reset.withFetchWord 32 0x00000008) = exec .cmdReset State.reset := ⟨rfl, rfl⟩

/-- V-E1: the fifth record of a queue of four is dropped and OVF is set. -/
theorem test_overflow :
    let s := { queued with params := { evqDepth := 1, base := 0 } }
    emit .level 0#28 0#32 4#64 s = { s with sticky := 0b000001000#9 } := by decide

/-- V-E2, V-E3: IRQ by an enabled sticky bit, and by EVNE. -/
theorem test_irq :
    State.irq { State.reset with sticky := 0b000001000#9, irqen := 0x008#10 } = true ∧
    State.irq { queued with irqen := 0x200#10 } = true ∧ State.irq { State.reset with irqen := 0x200#10 } = false := by
  decide

/-- Section 1.1: the stuffing function on a run of ten zeros. -/
theorem test_stuff :
    (stuff (List.replicate 10 .dominant)).map Level.bit =
      [false, false, false, false, false, true, false, false, false, false, false, true] := by decide

/-- R111: `sample 0, -100` is the word 0xFF9C0000 (P2), `cmd CRC_FEED, 32` is 0x00001F04 (P1). -/
theorem test_assembly :
    (HostLine.sample 0 (-100)).expand 0 = some [{ write := true, addr := 0x58, size := 4, data := 0xFF9C0000#32 }] ∧
    (HostLine.cmdCrcFeed 32).expand 0 = some [{ write := true, addr := 0x30, size := 4, data := 0x00001F04#32 }] := by
  decide

/-- R241: a write to any read-only register changes nothing but ACC_ERR. -/
theorem test_wr_read_only :
    [Instr.wrCrc 1#32, .wrEvtHead 1#32, .wrEvtAux 1#32, .wrEvtTlo 1#32, .wrEvtThi 1#32, .wrEvtCnt 0#32, .wrTimeLo 1#32,
      .wrTimeHi 1#32, .wrCrstate 1#32, .wrDsstate 1#32, .wrIdlecnt 1#32].all
      (fun i => decide (after i queued = { queued with sticky := 0b000000010#9 })) = true := by decide

/-! ## Witnesses: the hypotheses of each obligation are met, each clause at a boundary of its range -/

/-- One pending access. -/
def asking (a : Access) : State := { State.reset with host := { pending := [.access a], returned := [] } }

/-- The running block of the witnesses meets the invariant: SYNC, at its sample point, region open. -/
theorem witness_inv : Inv (inFrame 5#16 true 1#3 .recessive) where
  running _ :=
    { config := by decide
      queueShort := by decide
      phaseInBit := by decide
      unsampledBeforePoint := by decide
      unsampledFull := by decide }
  runShort := by decide
  fieldCount := by decide
  regionInSync := by decide
  phaseInRegion := by decide
  sofUnsampled := by decide
  queueFits := by decide
  endRequested := by decide
  stopInCover := by decide
  coverCount := by decide
  captureCount := by decide
  huntCleared := by decide
  recordsTyped := by decide

/-- An unsampled bit of the running block, `ph` samples into it (`ph < SPO`), meets it too. -/
theorem witness_inv_unsampled : Inv (inFrame 4#16 false 1#3 .recessive) where
  running _ :=
    { config := by decide
      queueShort := by decide
      phaseInBit := by decide
      unsampledBeforePoint := by decide
      unsampledFull := by decide }
  runShort := by decide
  fieldCount := by decide
  regionInSync := by decide
  phaseInRegion := by decide
  sofUnsampled := by decide
  queueFits := by decide
  endRequested := by decide
  stopInCover := by decide
  coverCount := by decide
  captureCount := by decide
  huntCleared := by decide
  recordsTyped := by decide

theorem witness_DecodeInvertsEncode : Instr.wf (.wrReserved80 0xFC#8 1#32) = true ∧ Instr.wf (.cmdReserved 9#32) = true := by
  decide

/-- The first and the last word of the window. -/
theorem witness_StepRunsTheDecodedOperation :
    (∃ (a : Access) (rest : List HostEvent) (off : BitVec 8), (asking a).host.pending = .access a :: rest ∧
      a.addr = (asking a).params.base + off.toNat ∧ a.size = 4 ∧ off.toNat % 4 = 0 ∧ off = 0#8) ∧
    (∃ (a : Access) (rest : List HostEvent) (off : BitVec 8), (asking a).host.pending = .access a :: rest ∧
      a.addr = (asking a).params.base + off.toNat ∧ a.size = 4 ∧ off.toNat % 4 = 0 ∧ off = 0xFC#8) :=
  ⟨⟨{ write := false, addr := 0, size := 4, data := 0#32 }, [], 0#8, by decide⟩,
    ⟨{ write := true, addr := 0xFC, size := 4, data := 0#32 }, [], 0xFC#8, by decide⟩⟩

/-- Another width at an aligned offset, and a word access at an unaligned one. -/
theorem witness_IllegalAccessOnlySetsAccErr :
    (∃ (a : Access) (rest : List HostEvent) (off : BitVec 8), (asking a).host.pending = .access a :: rest ∧
      a.addr = (asking a).params.base + off.toNat ∧ a.size ≠ 4 ∧ off.toNat % 4 = 0) ∧
    (∃ (a : Access) (rest : List HostEvent) (off : BitVec 8), (asking a).host.pending = .access a :: rest ∧
      a.addr = (asking a).params.base + off.toNat ∧ a.size = 4 ∧ off.toNat % 4 ≠ 0) :=
  ⟨⟨{ write := false, addr := 0, size := 1, data := 0#32 }, [], 0#8, by decide⟩,
    ⟨{ write := true, addr := 0xFF, size := 4, data := 0#32 }, [], 0xFF#8, by decide⟩⟩

/-- Just below the window, just above it, and nothing pending. -/
theorem witness_OutsideTheWindowStopsAndQuietStays :
    (∃ (s : State) (a : Access) (rest : List HostEvent), s.host.pending = .access a :: rest ∧ a.addr < s.params.base) ∧
    (∃ (s : State) (a : Access) (rest : List HostEvent), s.host.pending = .access a :: rest ∧
      a.addr = s.params.base + 256) ∧
    State.reset.host.pending = [] :=
  ⟨⟨{ asking { write := false, addr := 7, size := 4, data := 0#32 } with params := { evqDepth := 4, base := 8 } }, _, [],
      rfl, by decide⟩,
    ⟨asking { write := false, addr := 256, size := 4, data := 0#32 }, _, [], rfl, by decide⟩, rfl⟩

theorem witness_ResetLeavesTheListedValues :
    { flagged with host := { pending := [.hardReset], returned := [] } }.host.pending = .hardReset :: [] ∧
    definedRead .rdIdlecnt = true := ⟨rfl, rfl⟩

theorem witness_EventAndTimeRegistersRead : (∃ r rest, queued.evq = r :: rest) ∧ State.reset.evq = [] := ⟨⟨_, _, rfl⟩, rfl⟩

theorem witness_ReadsDoNotDisturbReads :
    definedRead .rdEvtHead = true ∧ definedRead .rdStatus = true ∧ ∃ t, exec .rdEvtHead queued = .next t :=
  ⟨rfl, rfl, _, rfl⟩

theorem witness_ReadOnlyWritesOnlySetAccErr : readOnlyWrite (.wrIdlecnt 0#32) = true := by decide

/-- All four clauses; the configuration is legal by the least margin (LTHR = HTHR − 1, NBP = SPO + 1 = SJW + 1). -/
theorem witness_CtrlWriteEnablesAndDisables :
    enabled.ctrl.en = true ∧ (State.reset.ctrl.en = false ∧ (0x1E#32).getLsbD 0 = false) ∧
    (let c : CfgRegs := { hthr := 0#32, lthr := 0xFFFFFFFF#32, nbp := 1#16, spo := 0#16, sjw := 0#16, mgw := 0#8 };
      c.lthr.toInt < c.hthr.toInt ∧ 1 ≤ c.nbp.toNat ∧ c.spo.toNat < c.nbp.toNat ∧ c.sjw.toNat < c.nbp.toNat) ∧
    ((0x0B#32).getLsbD 0 = true ∧ ¬ (State.reset.cfg.lthr.toInt < State.reset.cfg.hthr.toInt)) := by decide

theorem witness_ConfigurationWrites :
    State.reset.ctrl.en = false ∧ configWrite (.wrMgw 1#32) = true ∧ enabled.ctrl.en = true := by decide

theorem witness_SimpleCommands : State.reset.evq = [] ∧ ∃ r rest, queued.evq = r :: rest := ⟨rfl, _, _, rfl⟩

theorem witness_CrcStopNeedsACoveredFrame :
    ((inFrame 5#16 true 1#3 .recessive).ds.dsAct = true ∧ (inFrame 5#16 true 1#3 .recessive).cc.crcph = .cover) ∧
    ¬ (State.reset.ds.dsAct = true ∧ State.reset.cc.crcph = .cover) := by decide

theorem witness_ReleaseReturnsToHunt :
    State.reset.cr.crm = .hunt ∧ (inFrame 5#16 true 1#3 .recessive).cr.crm = .sync := by decide

theorem witness_SampleWriteIsOneTick : State.reset.ctrl.en = false ∧ enabled.ctrl.en = true := by decide

theorem witness_TickFrame : enabled.ctrl.en = true ∧ ∃ t, exec (.wrSample 100#32) enabled = .next t := ⟨rfl, _, rfl⟩

theorem witness_TickRecordsInOrder :
    (inFrame 4#16 false 1#3 .recessive).ctrl.en = true ∧
    ∃ t, exec (.wrSample 100#32) (inFrame 4#16 false 1#3 .recessive) = .next t := ⟨rfl, _, rfl⟩

/-- At the thresholds themselves: V = HTHR from R, V = LTHR from D. -/
theorem witness_HysteresisHolds :
    (enabled.cmp.lvl = .recessive ∧ sampleValue enabled.ctrl 60#32 ≤ enabled.cfg.hthr.toInt) ∧
    (let s : State := { enabled with cmp := { lvl := .dominant } };
      s.cmp.lvl = .dominant ∧ s.cfg.lthr.toInt ≤ sampleValue s.ctrl 40#32) := by decide

/-- A run going on; a run of exactly W ended; a run of W − 1 ended. -/
theorem witness_GlitchesAreCounted :
    (let s : State := { enabled with gf := { GlitchFilter.init with runlen := 1#16 } };
      Level.recessive = s.gf.runlv ∧ (Level.dominant ≠ s.gf.runlv ∧ max s.cfg.mgw.toNat 1 ≤ s.gf.runlen.toNat)) ∧
    (let s : State := { enabled with cfg := { enabled.cfg with mgw := 2#8 }, gf := { GlitchFilter.init with runlen := 1#16 } };
      Level.dominant ≠ s.gf.runlv ∧ s.gf.runlen.toNat < max s.cfg.mgw.toNat 1) := by decide

theorem witness_FilterDeliversTheFilteredSequence : enabled.gf.rq = [] ∧ enabled.gf.flt = .recessive := by decide

/-- W = 3: the last index of a run of exactly W, and of one of W - 1, each before a run of the other level. -/
theorem witness_FilterKeepsLongRunsAndDropsShortOnes :
    1 ≤ 3 ∧ [Level.recessive].head? ≠ some .dominant ∧ 2 < 3 ∧ 3 ≤ 3 ∧ 1 < 2 ∧ 2 < 3 := by decide

/-- Idle for exactly NBP samples; the last index of the list. -/
theorem witness_UndisturbedSamplingIsPeriodic :
    let s : State := { enabled with cr := { ClockRecovery.init with idlecnt := 8#16 } }
    configOk s.cfg = true ∧ s.cr.crm = .hunt ∧ s.cfg.nbp.toNat ≤ s.cr.idlecnt.toNat ∧ 16 < 1 + 8 + 8 := by decide

/-- An edge with exactly NBP recessive samples before it, with one fewer, and SYNC at the last phase of a bit. -/
theorem witness_HuntAndBitTiming :
    (let s : State := { enabled with cr := { ClockRecovery.init with idlecnt := 8#16 } };
      s.cr.crm = .hunt ∧ s.cfg.nbp.toNat ≤ s.cr.idlecnt.toNat) ∧
    (let s : State := { enabled with cr := { ClockRecovery.init with idlecnt := 7#16 } };
      s.cr.crm = .hunt ∧ ¬ s.cfg.nbp.toNat ≤ s.cr.idlecnt.toNat) ∧
    ((inFrame 7#16 true 1#3 .recessive).cr.crm = .sync ∧ (7#16 : BitVec 16) + 1#16 = 8#16) := by decide

/-- The clauses at the values where they meet (BLEN = 8): no edge; an unsampled bit; PH = 4, the last late one; PH = 5 with
SJW = 2, a partial correction; PH = 6 with SJW = 2, a full one. -/
theorem witness_SoftResyncIsBounded :
    (let c := (inFrame 4#16 true 1#3 .recessive).cr;
      c.ph.toNat < c.blen.toNat ∧ c.ph ≠ 0#16 ∧ c.rsy = false ∧ 2 * c.ph.toNat ≤ c.blen.toNat) ∧
    (let c := (inFrame 7#16 false 1#3 .recessive).cr;
      c.ph.toNat < c.blen.toNat ∧ c.ph ≠ 0#16 ∧ c.rsy = false ∧ c.smp = false) ∧
    (let c := (inFrame 5#16 true 1#3 .recessive).cr;
      c.ph.toNat < c.blen.toNat ∧ ¬ (c.smp = false ∨ 2 * c.ph.toNat ≤ c.blen.toNat) ∧
        (2#16 : BitVec 16).toNat < c.blen.toNat - c.ph.toNat) ∧
    (let c := (inFrame 6#16 true 1#3 .recessive).cr;
      c.ph.toNat < c.blen.toNat ∧ ¬ (c.smp = false ∨ 2 * c.ph.toNat ≤ c.blen.toNat) ∧
        c.blen.toNat - c.ph.toNat ≤ (2#16 : BitVec 16).toNat) := by decide

/-- One step before the sample point, and two steps before it. -/
theorem witness_SamplingAtTheSamplePoint :
    (let a := timingStep (isEdge .recessive .recessive) (inFrame 4#16 false 1#3 .recessive);
      a.cr.crm = .sync ∧ a.cr.smp = false ∧ a.cr.ph = (inFrame 4#16 false 1#3 .recessive).cfg.spo) ∧
    (let a := timingStep (isEdge .recessive .recessive) (inFrame 3#16 false 1#3 .recessive);
      a.cr.ph ≠ (inFrame 3#16 false 1#3 .recessive).cfg.spo) := by decide

/-- NBP = 8, SJW = 2: without an edge the next sampling is 8 steps on; with a late edge by 3 it is 10, the greatest
distance (V-CR4). -/
theorem witness_SamplingsAreSpacedByTheBitPeriod :
    Inv (inFrame 4#16 false 1#3 .recessive) ∧ (inFrame 4#16 false 1#3 .recessive).ctrl.en = true ∧
    samplingFlags 0#64 .recessive (List.replicate 9 .recessive) (inFrame 4#16 false 1#3 .recessive) =
      true :: (List.replicate 7 false ++ [true]) ∧
    samplingFlags 0#64 .recessive (List.replicate 6 .recessive ++ List.replicate 5 .dominant)
        (inFrame 4#16 false 1#3 .recessive) =
      true :: (List.replicate 9 false ++ [true]) :=
  ⟨witness_inv_unsampled, rfl, by decide, by decide⟩

theorem witness_RunsAreCounted : (4#3 : BitVec 3).toNat < 5 ∧ (5#3 : BitVec 3).toNat = 5 := by decide

theorem witness_SixthIdenticalBitIsAViolation :
    let s := inFrame 5#16 true 5#3 .dominant
    s.ds.dsAct = true ∧ s.ds.cnt = 5#3 ∧ Level.dominant = s.ds.lv ∧ s.evq.length < s.params.evqDepth := by decide

/-- Outside a region; inside one, with room for exactly one more record, and with none. -/
theorem witness_RegionBitsAreRecorded :
    State.reset.ds.dsAct = false ∧
    (let s : State := { inFrame 5#16 true 1#3 .recessive with params := { evqDepth := 1, base := 0 } };
      s.ds.dsAct = true ∧ s.evq.length ≤ s.params.evqDepth) ∧
    (let s : State := { inFrame 5#16 true 1#3 .recessive with
        evq := queued.evq, params := { evqDepth := 1, base := 0 } };
      s.ds.dsAct = true ∧ s.evq.length ≤ s.params.evqDepth) := by decide

/-- Ten zeros, stuffed to twelve bits, in a queue of just twelve records: in COVER, and in RECV with room in the CRC field
for ten bits and one more. -/
theorem witness_StuffingRoundTrip :
    [({ crcph := .cover, stopp := false, rxn := 0#4 } : CrcControl), { crcph := .recv, stopp := false, rxn := 4#4 }].all
      (fun cc =>
        let s : State := { inFrame 5#16 true 0#3 .recessive with params := { evqDepth := 12, base := 0 }, cc := cc }
        decide (s.ds.dsAct = true ∧ s.ds.cnt = 0#3 ∧ s.ds.endp = false ∧
          (s.cc.crcph = .recv ∨ (s.cc.crcph = .cover ∧ s.cc.stopp = true) →
            s.cc.rxn.toNat + (List.replicate 10 Level.dominant).length < 15) ∧
          s.evq.length + (stuff (List.replicate 10 .dominant)).length ≤ s.params.evqDepth)) = true := by decide

theorem witness_CrcIsLinearWithZeroResidue : [true, false].length = [false, true].length := rfl

/-- COVER with a data bit and no stop; COVER with a stuff bit under a stop; COVER with the first data bit after it; a stuff
bit in RECV; IDLE; DONE. -/
theorem witness_CoverageFollowsTheMode :
    (true = !false) ∧ (false = !true) ∧
    (let s := inFrame 5#16 true 1#3 .recessive;
      s.cc.crcph = .cover ∧ ¬ (s.cc.stopp = true ∧ true = true)) ∧
    (let s : State := { enabled with cc := { crcph := .cover, stopp := true, rxn := 0#4 } };
      s.cc.crcph = .cover ∧ s.cc.stopp = true ∧ ¬ (s.cc.stopp = true ∧ false = true)) ∧
    (CrcControl.init.crcph = .idle) := by decide

/-- One bit before the last of the field, and the last. -/
theorem witness_CaptureAndCompare :
    (let s : State := { enabled with cc := { crcph := .recv, stopp := false, rxn := 13#4 } };
      s.cc.crcph = .recv ∧ s.cc.rxn ≠ 14#4) ∧
    (let s : State := { enabled with cc := { crcph := .recv, stopp := false, rxn := 14#4 } };
      s.cc.crcph = .recv ∧ s.cc.rxn = 14#4) := by decide

theorem witness_CrcCoversTheFrame :
    let s := inFrame 5#16 true 0#3 .recessive
    s.ds.dsAct = true ∧ s.ds.cnt = 0#3 ∧ s.ds.endp = false ∧ s.cc.crcph = .cover ∧ s.cc.stopp = false ∧ s.crc = 0#15 := by
  decide

theorem witness_EveryStepKeepsTheInvariant :
    Inv (inFrame 5#16 true 1#3 .recessive) ∧ ∃ t, step (inFrame 5#16 true 1#3 .recessive) = .next t :=
  ⟨witness_inv, _, rfl⟩

theorem witness_InvariantsAsWordedOfEveryReachableState : Reachable State.reset :=
  .reset Config.reference { pending := [], returned := [] } (by decide)

/-- A step that answers a next state, and one that does not. -/
theorem witness_EachStepPerformsOneEvent :
    (∃ t, step (asking { write := false, addr := 0, size := 4, data := 0#32 }) = .next t) ∧
    ∀ t, step (asking { write := false, addr := 256, size := 4, data := 0#32 }) ≠ .next t :=
  ⟨⟨_, rfl⟩, fun _ h => nomatch h⟩

theorem witness_ConfigurationIsFrozenWhileEnabled :
    enabled.ctrl.en = true ∧ (∃ t, exec (.wrHthr 1#32) enabled = .next t) ∧ commandOf (.wrHthr 1#32) ≠ some .reset :=
  ⟨rfl, ⟨_, rfl⟩, by decide⟩

/-- The sample word `v` sets the sticky bit `b`, which was clear. -/
def sets (b : Sticky) (v : Word) (s : State) : Bool := !s.hasSticky b && (after (.wrSample v) s).hasSticky b

/-- Every sticky bit is set by an operation of its rule: a refused enable, a refused sample, a CRC_STOP in HUNT, and a sample
that finds EVQ full, ends a short run, is the 6th identical bit, is the last bit of a CRC field (mismatching, matching),
or hard-syncs; and a bit is cleared by a write of 1. -/
theorem witness_StickyBitsChangeOnlyByTheirRules :
    (∃ t, exec (.wrCtrl 1#32) State.reset = .next t ∧ t.hasSticky .setupErr = true) ∧
    (∃ t, exec (.wrSample 0#32) State.reset = .next t ∧ t.hasSticky .accErr = true) ∧
    (∃ t, exec .cmdCrcStop State.reset = .next t ∧ t.hasSticky .cmdErr = true) ∧
    sets .ovf 0#32 { inFrame 4#16 false 1#3 .recessive with params := { evqDepth := 0, base := 0 } } = true ∧
    sets .glitch 100#32 { enabled with
      cfg := { enabled.cfg with mgw := 2#8 }, gf := { GlitchFilter.init with runlen := 1#16 } } = true ∧
    sets .stuffErr 0#32 (inFrame 4#16 false 5#3 .recessive) = true ∧
    sets .crcErr 0#32 { inFrame 4#16 false 1#3 .recessive with
      cc := { crcph := .recv, stopp := false, rxn := 14#4 } } = true ∧
    sets .crcOk 0#32 { inFrame 4#16 false 1#3 .recessive with
      crc := 1#15, cc := { crcph := .recv, stopp := false, rxn := 14#4 } } = true ∧
    sets .sof 100#32 { enabled with cr := { ClockRecovery.init with idlecnt := 8#16 } } = true ∧
    (∃ t, exec (.wrStatus 0x100#32) flagged = .next t ∧ flagged.hasSticky .sof = true ∧ t.hasSticky .sof = false) :=
  ⟨⟨_, rfl, by decide⟩, ⟨_, rfl, by decide⟩, ⟨_, rfl, by decide⟩, by decide, by decide, by decide, by decide, by decide,
    by decide, ⟨_, rfl, by decide, by decide⟩⟩

theorem witness_TimeAndSyncChangeOnlyByTheirRules :
    ∃ t, exec .cmdRelease (inFrame 5#16 true 1#3 .recessive) = .next t ∧
      (inFrame 5#16 true 1#3 .recessive).cr.crm = .sync ∧ t.cr.crm = .hunt := ⟨_, rfl, rfl, rfl⟩

theorem witness_QueueIsFirstInFirstOut : ∃ t, exec .cmdPop queued = .next t := ⟨_, rfl⟩

theorem witness_DisabledPipelineIsFrozen :
    State.reset.ctrl.en = false ∧ ∃ t, exec (.wrNbp 8#32) State.reset = .next t ∧ t.ctrl.en = false ∧
      commandOf (.wrNbp 8#32) ≠ some .reset := ⟨rfl, _, rfl, rfl, by decide⟩

/-- Both ends of both ranges, and the first value past an end of each. -/
theorem witness_AssemblyExpandsExactly :
    (-32768 ≤ (-32768 : Int) ∧ (32767 : Int) ≤ 32767) ∧ (1 ≤ 1 ∧ 32 ≤ 32) ∧
    ¬ (-32768 ≤ (32768 : Int) ∧ (32768 : Int) ≤ 32767) ∧ ¬ (1 ≤ 33 ∧ 33 ≤ 32) := by decide

end Sys2Proof.Tests
end

/-! ## What an operation can do -/

namespace Sys2Proof.Proofs

open Sys2Proof.Machine Sys2Proof.Safety Sys2Proof.Laws

/-- The state a command leaves (R251 to R259, R262). -/
def commandResult : Command → State → State
  | .nop, s => s
  | .pop, s => popRecord s
  | .flush, s => flushRecords s
  | .crcClear, s => { s with crc := 0#15 }
  | .crcFeed nm1, s => { s with crc := crcFeed s.crcdin (nm1.toNat + 1) s.crc }
  | .crcStop, s => crcStop s
  | .release, s => release s
  | .glitchClr, s => { s with glitchCnt := 0#32 }
  | .reset, s => resetBlock s
  | .reserved _, s => setSticky .cmdErr s

/-- R250: a CMD write is its command. -/
theorem execWrCmd_eq (v : Word) (s : State) : execWrCmd v s = .next (commandResult (decodeCommand v) s) := by
  unfold execWrCmd
  cases decodeCommand v <;> rfl

/-- The accesses that are refused with ACC_ERR (R241, R247, R268, R269). -/
def Refused (i : Instr) (s : State) : Prop :=
  readOnlyWrite i = true ∨ reservedAccess i = true ∨ (configWrite i = true ∧ s.ctrl.en = true) ∨
    (sampleWrite i = true ∧ s.ctrl.en = false)

/-- What the operation `i` can do in the state `s`: its class and the state it leaves. -/
inductive Effect (i : Instr) (s : State) : State → Prop where
  | read (w : Word) (hi : definedRead i = true) : Effect i s (hostReturn w s)
  | refuse (hi : Refused i s) : Effect i s (refuseAccess s)
  | refuseRead (hi : reservedAccess i = true) : Effect i s (refuseRead s)
  | control (v : Word) (hi : i = .wrCtrl v) : Effect i s (writeCtrl v s)
  | clear (v : Word) (hi : i = .wrStatus v) : Effect i s (clearSticky v s)
  | configure (c : CfgRegs) (hi : configWrite i = true) (hen : s.ctrl.en = false) : Effect i s { s with cfg := c }
  | crcdin (v : Word) (hi : i = .wrCrcdin v) : Effect i s { s with crcdin := v }
  | irqen (v : Word) (hi : i = .wrIrqen v) : Effect i s { s with irqen := v.extractLsb' 0 10 }
  | tick (v : Word) (hi : i = .wrSample v) (hen : s.ctrl.en = true) : Effect i s (tick v s)
  | command (c : Command) (hi : commandOf i = some c) : Effect i s (commandResult c s)

/-- R247: a write to a configuration register stores while EN = 0 and is refused while EN = 1. -/
theorem writeConfig_effect {i : Instr} (hi : configWrite i = true) (f : CfgRegs → CfgRegs) (s : State) :
    Effect i s (writeConfig f s) := by
  unfold writeConfig
  split
  · exact .refuse (.inr (.inr (.inl ⟨hi, ‹_›⟩)))
  · exact .configure _ hi (Bool.eq_false_iff.mpr ‹_›)

/-- R268: a SAMPLE write is a tick while EN = 1 and is refused while EN = 0. -/
theorem wrSample_effect (v : Word) (s : State) :
    Effect (.wrSample v) s (if s.ctrl.en then tick v s else refuseAccess s) := by
  split
  · exact .tick v rfl ‹_›
  · exact .refuse (.inr (.inr (.inr ⟨rfl, Bool.eq_false_iff.mpr ‹_›⟩)))

theorem command_answers {i : Instr} {c : Command} {s : State} (hi : commandOf i = some c)
    (h : exec i s = .next (commandResult c s)) : ∃ t, exec i s = .next t ∧ Effect i s t :=
  ⟨_, h, .command c hi⟩

/-- Every operation answers a next state, and that state is one of its effects. -/
theorem exec_answers (i : Instr) (s : State) : ∃ t, exec i s = .next t ∧ Effect i s t := by
  cases i with
  | rdId | rdCtrl | rdStatus | rdHthr | rdLthr | rdNbp | rdSpo | rdSjw | rdMgw | rdCrc | rdRxcrc | rdCrcdin | rdCmd
  | rdEvtHead | rdEvtAux | rdEvtTlo | rdEvtThi | rdEvtCnt | rdTimeLo | rdTimeHi | rdGlitchCnt | rdIrqen | rdSample
  | rdCrstate | rdDsstate | rdIdlecnt => exact ⟨_, rfl, .read _ rfl⟩
  | wrId | wrCrc | wrRxcrc | wrEvtHead | wrEvtAux | wrEvtTlo | wrEvtThi | wrEvtCnt | wrTimeLo | wrTimeHi | wrGlitchCnt
  | wrCrstate | wrDsstate | wrIdlecnt => exact ⟨_, rfl, .refuse (.inl rfl)⟩
  | rdReserved68 | rdReserved70 | rdReserved80 => exact ⟨_, rfl, .refuseRead rfl⟩
  | wrReserved68 | wrReserved70 | wrReserved80 => exact ⟨_, rfl, .refuse (.inr (.inl rfl))⟩
  | wrHthr | wrLthr | wrNbp | wrSpo | wrSjw | wrMgw => exact ⟨_, rfl, writeConfig_effect rfl _ s⟩
  | wrCtrl v => exact ⟨_, rfl, .control v rfl⟩
  | wrStatus v => exact ⟨_, rfl, .clear v rfl⟩
  | wrCrcdin v => exact ⟨_, rfl, .crcdin v rfl⟩
  | wrIrqen v => exact ⟨_, rfl, .irqen v rfl⟩
  | wrSample v => exact ⟨_, rfl, wrSample_effect v s⟩
  | wrCmd v => exact command_answers rfl (execWrCmd_eq v s)
  | cmdNop | cmdPop | cmdFlush | cmdCrcClear | cmdCrcFeed | cmdCrcStop | cmdRelease | cmdGlitchClr | cmdReset
  | cmdReserved => exact command_answers rfl rfl

/-- The state an operation answers is one of its effects. -/
theorem exec_effect {i : Instr} {s t : State} (h : exec i s = .next t) : Effect i s t := by
  obtain ⟨u, hu, he⟩ := exec_answers i s
  rw [h] at hu
  cases hu
  exact he

/-- What a CTRL write does (R244, R342), by EN and the word's bit 0. -/
inductive CtrlEffect (v : Word) (s : State) : State → Prop where
  | stayEnabled (hen : s.ctrl.en = true) (hv : v.getLsbD 0 = true) : CtrlEffect v s s
  | disable (hen : s.ctrl.en = true) (hv : v.getLsbD 0 = false) :
    CtrlEffect v s { s with ctrl := { s.ctrl with en := false } }
  | enable (hen : s.ctrl.en = false) (hv : v.getLsbD 0 = true) (hok : configOk s.cfg = true) :
    CtrlEffect v s (enableInit { s with ctrl := { s.ctrl.withModes v with en := true } })
  | refuseEnable (hen : s.ctrl.en = false) (hv : v.getLsbD 0 = true) (hok : configOk s.cfg = false) :
    CtrlEffect v s (setSticky .setupErr { s with ctrl := s.ctrl.withModes v })
  | setModes (hen : s.ctrl.en = false) (hv : v.getLsbD 0 = false) : CtrlEffect v s { s with ctrl := s.ctrl.withModes v }

theorem writeCtrl_effect (v : Word) (s : State) : CtrlEffect v s (writeCtrl v s) := by
  unfold writeCtrl
  cases hen : s.ctrl.en <;> cases hv : v.getLsbD 0
  · exact .setModes hen hv
  · cases hok : configOk s.cfg
    · simpa [hok] using CtrlEffect.refuseEnable hen hv hok
    · simpa [hok] using CtrlEffect.enable hen hv hok
  · exact .disable hen hv
  · exact .stayEnabled hen hv

/-- The state of a tick after the comparator. -/
def compared (v : Word) (s : State) : State := comparatorStep s.time v s

/-- The state of a tick after glitch detection. -/
def detected (v : Word) (s : State) : State := glitchDetect s.time (compared v s).cmp.lvl (compared v s)

/-- R268: the tick by its stages. -/
theorem tick_eq (v : Word) (s : State) :
    tick v s = advanceTime (glitchFilter s.time (compared v s).cmp.lvl (detected v s)) := rfl

/-- But for TIME, which counts the sample, a tick keeps what every stage keeps. -/
theorem tick_frame (v : Word) (s : State) : StageFrame { s with time := s.time + 1#64 } (tick v s) := by
  have h : StageFrame s (glitchFilter s.time (compared v s).cmp.lvl (detected v s)) :=
    (comparatorStep_frame s.time v s).trans ((glitchDetect_frame _ _ _).trans (glitchFilter_frame _ _ _))
  rw [tick_eq]
  generalize glitchFilter s.time (compared v s).cmp.lvl (detected v s) = u at h
  exact ⟨h.params, h.ctrl, h.cfg, h.crcdin, h.irqen, congrArg (· + 1#64) h.time, h.host, h.stickyGrows, h.stickyLow⟩

end Sys2Proof.Proofs

/-! ## The invariant by its parts -/

namespace Sys2Proof.Proofs

open Sys2Proof.Machine Sys2Proof.Safety Sys2Proof.Laws

/-- The event queue's part of the invariant (R46, R103). -/
structure QueueInv (s : State) : Prop where
  fits : s.evq.length ≤ s.params.evqDepth
  typed : ∀ r ∈ s.evq, typedRecord r = true

/-- The part of the invariant on the region and the CRC control, `m` the synchronisation mode. -/
structure RegionInv (m : SyncMode) (d : Destuffer) (c : CrcControl) : Prop where
  runShort : d.cnt.toNat ≤ 5
  regionInSync : d.dsAct = true → m = .sync
  phaseInRegion : c.crcph = .cover ∨ c.crcph = .recv → d.dsAct = true
  endRequested : d.endp = true → d.dsAct = true ∧ c.crcph = .done
  stopInCover : c.stopp = true → c.crcph = .cover
  coverCount : c.crcph = .cover → c.rxn = 0#4
  captureCount : c.crcph = .recv → c.rxn.toNat < 15

/-- The part of the invariant on clock recovery, whatever EN. -/
structure SyncInv (c : ClockRecovery) : Prop where
  sofUnsampled : c.sofp = true → c.smp = false
  huntCleared : c.crm = .hunt → c.ph = 0#16 ∧ c.blen = 0#16 ∧ c.smp = false ∧ c.rsy = false ∧ c.sofp = false

/-- The phase lies in its bit, and a bit not yet sampled has its full length and is not past its sample point. -/
structure InBit (g : CfgRegs) (c : ClockRecovery) : Prop where
  phase : c.ph.toNat < c.blen.toNat
  fits : c.blen.toNat ≤ g.nbp.toNat
  toPoint : c.smp = false → c.ph.toNat ≤ g.spo.toNat
  full : c.smp = false → c.blen = g.nbp

theorem inv_iff (s : State) : Inv s ↔
    (s.ctrl.en = true → Running s) ∧ RegionInv s.cr.crm s.ds s.cc ∧ SyncInv s.cr ∧ QueueInv s where
  mp h := ⟨h.running,
    ⟨h.runShort, h.regionInSync, h.phaseInRegion, h.endRequested, h.stopInCover, h.coverCount, h.captureCount⟩,
    ⟨h.sofUnsampled, h.huntCleared⟩, ⟨h.queueFits, h.recordsTyped⟩⟩
  mpr h := by
    obtain ⟨hrun, hreg, hsync, hq⟩ := h
    exact
      { running := hrun
        runShort := hreg.runShort
        fieldCount := Nat.le_of_lt_succ s.cc.rxn.isLt
        regionInSync := hreg.regionInSync
        phaseInRegion := hreg.phaseInRegion
        sofUnsampled := hsync.sofUnsampled
        queueFits := hq.fits
        endRequested := hreg.endRequested
        stopInCover := hreg.stopInCover
        coverCount := hreg.coverCount
        captureCount := hreg.captureCount
        huntCleared := hsync.huntCleared
        recordsTyped := hq.typed }

/-- R145: sampling happens in SYNC, at a bit not yet sampled, at phase SPO. -/
theorem samplingDue_iff (s : State) :
    samplingDue s = true ↔ s.cr.crm = .sync ∧ s.cr.smp = false ∧ s.cr.ph = s.cfg.spo := by
  simp [samplingDue, and_assoc]

/-- Between operations an unsampled bit stands before its sample point: in its bit, and not due for sampling. -/
theorem running_iff (s : State) : Running s ↔
    configOk s.cfg = true ∧ s.gf.rq.length < s.window ∧ (s.cr.crm = .sync → InBit s.cfg s.cr) ∧
      samplingDue s = false where
  mp h := by
    refine ⟨h.config, h.queueShort, fun hm => ⟨(h.phaseInBit hm).1, (h.phaseInBit hm).2,
      fun hu => (h.unsampledBeforePoint hm hu).le, h.unsampledFull hm⟩, ?_⟩
    refine Bool.eq_false_iff.mpr fun hdue => ?_
    obtain ⟨hm, hu, hp⟩ := (samplingDue_iff s).mp hdue
    exact absurd (h.unsampledBeforePoint hm hu) (by simp [hp])
  mpr h := by
    obtain ⟨hok, hrq, hbit, hdue⟩ := h
    refine ⟨hok, hrq, fun hm => ⟨(hbit hm).phase, (hbit hm).fits⟩, fun hm hu => ?_, fun hm => (hbit hm).full⟩
    have hne : s.cr.ph ≠ s.cfg.spo := by simpa [samplingDue, hm, hu] using hdue
    exact lt_of_le_of_ne ((hbit hm).toPoint hu) fun he => hne (BitVec.eq_of_toNat_eq he)

/-- The invariant looks at EN, the configuration, the filter queue, clock recovery, the region, the CRC control and the
event queue only. -/
theorem inv_congr {s t : State} (h : Inv s) (hen : t.ctrl.en = s.ctrl.en) (hcfg : t.cfg = s.cfg)
    (hrq : t.gf.rq = s.gf.rq) (hcr : t.cr = s.cr) (hds : t.ds = s.ds) (hcc : t.cc = s.cc) (hq : QueueInv t) : Inv t := by
  obtain ⟨hrun, hreg, hsync, -⟩ := (inv_iff s).mp h
  refine (inv_iff t).mpr ⟨fun he => ?_, by rwa [hcr, hds, hcc], by rwa [hcr], hq⟩
  have hr := (running_iff s).mp (hrun (hen ▸ he))
  exact (running_iff t).mpr (by simpa [samplingDue, State.window, hcfg, hrq, hcr] using hr)

/-! ### The event queue -/

theorem QueueInv.of_eq {s t : State} (h : QueueInv s) (hp : t.params = s.params) (hq : t.evq = s.evq) : QueueInv t :=
  ⟨by rw [hp, hq]; exact h.fits, by rw [hq]; exact h.typed⟩

theorem inv_queue {s : State} (h : Inv s) : QueueInv s := ⟨h.queueFits, h.recordsTyped⟩

theorem mkRecord_typed (ty : RecordType) (data : BitVec 28) (aux : Word) (n : Time) :
    typedRecord (mkRecord ty data aux n) = true := by
  cases ty <;> simp [typedRecord, RecordType.code]

theorem emit_keeps_queue (ty : RecordType) (data : BitVec 28) (aux : Word) (n : Time) {s : State} (h : QueueInv s) :
    QueueInv (emit ty data aux n s) := by
  rcases emit_cases ty data aux n s with ⟨hroom, he⟩ | ⟨-, he⟩
  · rw [he]
    refine ⟨?_, fun r hr => ?_⟩
    · have := h.fits
      simp only [List.length_append, List.length_singleton]
      omega
    · rcases List.mem_append.mp hr with hr | hr
      · exact h.typed r hr
      · rw [List.mem_singleton.mp hr]
        exact mkRecord_typed ty data aux n
  · rw [he]
    exact h.of_eq rfl rfl

theorem comparatorStep_keeps_queue (n : Time) (v : Word) {s : State} (h : QueueInv s) :
    QueueInv (comparatorStep n v s) := by
  unfold comparatorStep
  dsimp only
  split
  · exact emit_keeps_queue _ _ _ _ (h.of_eq rfl rfl)
  · exact h.of_eq rfl rfl

theorem glitchDetect_keeps_queue (n : Time) (raw : Level) {s : State} (h : QueueInv s) :
    QueueInv (glitchDetect n raw s) := by
  unfold glitchDetect
  split
  · exact h.of_eq rfl rfl
  · have hr : QueueInv (reportGlitch s) := by
      unfold reportGlitch
      dsimp only
      split
      · exact emit_keeps_queue _ _ _ _ (h.of_eq rfl rfl)
      · exact h
    exact hr.of_eq rfl rfl

theorem emitCrcRecord_keeps_queue (n : Time) (r : Option (BitVec 28 × Word)) {s : State} (h : QueueInv s) :
    QueueInv (emitCrcRecord n r s) := by
  cases r with
  | none => exact h
  | some p => exact emit_keeps_queue _ _ _ _ h

theorem destuffBit_keeps_queue (n : Time) (b : Level) (sof : Bool) {s : State} (h : QueueInv s) :
    QueueInv (destuffBit n b sof s) := by
  unfold destuffBit
  split
  · have hcrc : QueueInv (regionCrc b s).st :=
      h.of_eq (((storeRun_frame _ s).trans (crcBit_frame _ _ _ _)).params) (by simp [regionCrc])
    have hrec := emitCrcRecord_keeps_queue n (regionCrc b s).record
      (emit_keeps_queue .bit (bitData (regionFlags b sof s)) (s.ds.didx.setWidth 32) n
        (hcrc.of_eq (countData_params _ _) (countData_evq (regionClass b s).data _)))
    exact hrec.of_eq (regionEnd_params _) (regionEnd_evq _)
  · exact emit_keeps_queue _ _ _ _ h

/-! ### The region and the CRC control -/

/-- R214, R216: the next data bit of the region is one of the CRC field. -/
def FieldBit (c : CrcControl) : Prop := c.crcph = .recv ∨ (c.crcph = .cover ∧ c.stopp = true)

/-- What the CRC engine does to its control, the region and the sticky bits at one region bit (R214 to R217). -/
inductive CrcEffect (s t : State) : Prop where
  | quiet (hcc : t.cc = s.cc) (hds : t.ds = s.ds) (hst : t.sticky = s.sticky)
  | capture (hf : FieldBit s.cc) (hn : s.cc.rxn ≠ 14#4) (hph : t.cc.crcph = .recv) (hrxn : t.cc.rxn = s.cc.rxn + 1#4)
    (hstop : t.cc.stopp = true → s.cc.crcph = .recv ∧ s.cc.stopp = true) (hds : t.ds = s.ds)
    (hst : t.sticky = s.sticky)
  | compare (hf : FieldBit s.cc) (hn : s.cc.rxn = 14#4) (hph : t.cc.crcph = .done)
    (hstop : t.cc.stopp = true → s.cc.crcph = .recv ∧ s.cc.stopp = true) (hds : t.ds = { s.ds with endp := true })
    (hst : t.sticky = s.sticky ||| (if t.rxcrc ≠ t.crc then Sticky.crcErr else .crcOk).mask)

/-- R216, R217: a capture that is not the 15th only counts; the 15th is compared. -/
theorem crcCapture_of_ne (b : Level) (s : State) (h : s.cc.rxn ≠ 14#4) :
    (crcCapture b s).st = { s with
      rxcrc := (s.rxcrc <<< 1) ||| (BitVec.ofBool b.bit).setWidth 15
      cc := { s.cc with rxn := s.cc.rxn + 1#4 } } := by
  have hne : s.cc.rxn + 1#4 ≠ Config.crcFieldLen := fun he => h (by simp only [Config.crcFieldLen] at he; bv_omega)
  simp only [crcCapture, if_neg hne]

theorem crcCapture_of_eq (b : Level) (s : State) (h : s.cc.rxn = 14#4) :
    (crcCapture b s).st = (crcCompare { s with
      rxcrc := (s.rxcrc <<< 1) ||| (BitVec.ofBool b.bit).setWidth 15
      cc := { s.cc with rxn := s.cc.rxn + 1#4 } }).st := by
  have he : s.cc.rxn + 1#4 = Config.crcFieldLen := by rw [h]; rfl
  simp only [crcCapture, if_pos he]

theorem crcCompare_sticky (s : State) : (crcCompare s).st.sticky =
    s.sticky ||| (if s.rxcrc ≠ s.crc then Sticky.crcErr else .crcOk).mask := by
  simp [crcCompare]

/-- The capture of a bit by an engine in RECV. -/
theorem crcCapture_effect (b : Level) (s u : State) (hph : u.cc.crcph = .recv) (hf : FieldBit s.cc)
    (hrxn : u.cc.rxn = s.cc.rxn) (hstop : u.cc.stopp = true → s.cc.crcph = .recv ∧ s.cc.stopp = true)
    (hds : u.ds = s.ds) (hst : u.sticky = s.sticky) : CrcEffect s (crcCapture b u).st := by
  by_cases hn : u.cc.rxn = 14#4
  · rw [crcCapture_of_eq b u hn]
    exact .compare hf (hrxn ▸ hn) rfl hstop (hds ▸ rfl) (hst ▸ crcCompare_sticky _)
  · rw [crcCapture_of_ne b u hn]
    exact .capture hf (hrxn ▸ hn) hph (hrxn ▸ rfl) hstop hds hst

/-- R214, first half: coverage ends at the first data bit after CRC_STOP; any other bit leaves the control alone. -/
theorem crcCover_cases (b : Level) (data stuff : Bool) (s : State) :
    (s.cc.crcph = .cover ∧ s.cc.stopp = true ∧ data = true ∧
      (crcCover b data stuff s).2 = { s with cc := { s.cc with crcph := .recv, stopp := false } }) ∨
    ((crcCover b data stuff s).2.cc = s.cc ∧ (crcCover b data stuff s).2.sticky = s.sticky) := by
  unfold crcCover
  split
  · split
    · rename_i hph hstop
      obtain ⟨hst, hd⟩ := Bool.and_eq_true_iff.mp hstop
      exact .inl ⟨hph, hst, hd, rfl⟩
    · split <;> exact .inr ⟨rfl, rfl⟩
  · exact .inr ⟨rfl, rfl⟩

/-- R214, second half: a data bit is captured in RECV. -/
theorem crcBit_st (b : Level) (data stuff : Bool) (s : State) : (crcBit b data stuff s).st =
    if (crcCover b data stuff s).2.cc.crcph = .recv ∧ data = true then (crcCapture b (crcCover b data stuff s).2).st
    else (crcCover b data stuff s).2 := by
  unfold crcBit
  dsimp only
  split <;> rfl

theorem crcBit_effect (b : Level) (data stuff : Bool) (s : State) : CrcEffect s (crcBit b data stuff s).st := by
  have hds := crcCover_ds b data stuff s
  rw [crcBit_st]
  rcases crcCover_cases b data stuff s with ⟨hph, hstop, hd, he⟩ | ⟨hcc, hst⟩
  · rw [he, if_pos ⟨rfl, hd⟩]
    exact crcCapture_effect b s _ rfl (.inr ⟨hph, hstop⟩) rfl (fun h => nomatch h) rfl rfl
  · split
    · rename_i hr
      rw [hcc] at hr
      exact crcCapture_effect b s _ (hcc ▸ hr.1) (.inl hr.1) (by rw [hcc]) (fun h => ⟨hr.1, hcc ▸ h⟩) hds hst
    · exact .quiet hcc hds hst

/-- R182 to R184: the run the classified bit leaves is at most 5. -/
theorem classifyBit_cnt_le (cnt : BitVec 3) (lv b : Level) (h : cnt.toNat ≤ 5) : (classifyBit cnt lv b).cnt.toNat ≤ 5 := by
  unfold classifyBit
  split
  · split <;> simp
  · rename_i hne
    split
    · have : cnt.toNat ≠ 5 := fun he => hne (BitVec.eq_of_toNat_eq he)
      simp only [BitVec.toNat_add, BitVec.toNat_ofNat]
      omega
    · simp

theorem RegionInv.stopp_of_recv {m : SyncMode} {d : Destuffer} {c : CrcControl} (h : RegionInv m d c)
    (hr : c.crcph = .recv) : c.stopp = false :=
  Bool.eq_false_iff.mpr fun hs => absurd (h.stopInCover hs) (by simp [hr])

/-- Before a bit of the CRC field fewer than 15 are counted. -/
theorem RegionInv.rxn_lt_of_fieldBit {m : SyncMode} {d : Destuffer} {c : CrcControl} (h : RegionInv m d c)
    (hf : FieldBit c) : c.rxn.toNat < 15 := by
  rcases hf with hr | ⟨hc, -⟩
  · exact h.captureCount hr
  · simp [h.coverCount hc]

/-- Before a bit of the CRC field the region's end is not requested. -/
theorem RegionInv.endp_of_fieldBit {m : SyncMode} {d : Destuffer} {c : CrcControl} (h : RegionInv m d c)
    (hf : FieldBit c) : d.endp = false := by
  refine Bool.eq_false_iff.mpr fun he => ?_
  have hdone := (h.endRequested he).2
  rcases hf with hr | ⟨hc, -⟩
  · exact absurd (hr.symm.trans hdone) (by decide)
  · exact absurd (hc.symm.trans hdone) (by decide)

/-- At a bit of an open region the CRC engine keeps the region's part of the invariant. -/
theorem CrcEffect.keeps_region {s t : State} {m : SyncMode} (he : CrcEffect s t) (h : RegionInv m s.ds s.cc)
    (hact : s.ds.dsAct = true) : RegionInv m t.ds t.cc := by
  cases he with
  | quiet hcc hds => rwa [hcc, hds]
  | capture hf hn hph hrxn hstop hds =>
    have hlt := h.rxn_lt_of_fieldBit hf
    have hend := h.endp_of_fieldBit hf
    rw [hds]
    exact
      { runShort := h.runShort
        regionInSync := h.regionInSync
        phaseInRegion := fun _ => hact
        endRequested := fun he => by simp [hend] at he
        stopInCover := fun hs => absurd (hstop hs).2 (by simp [h.stopp_of_recv (hstop hs).1])
        coverCount := fun hc => by simp [hph] at hc
        captureCount := fun _ => by rw [hrxn]; bv_omega }
  | compare hf hn hph hstop hds =>
    rw [hds]
    exact
      { runShort := h.runShort
        regionInSync := h.regionInSync
        phaseInRegion := fun _ => hact
        endRequested := fun _ => ⟨hact, hph⟩
        stopInCover := fun hs => absurd (hstop hs).2 (by simp [h.stopp_of_recv (hstop hs).1])
        coverCount := fun hc => by simp [hph] at hc
        captureCount := fun hr => by simp [hph] at hr }

theorem storeRun_keeps_region {s : State} {m : SyncMode} (b : Level) (h : RegionInv m s.ds s.cc) :
    RegionInv m (storeRun (regionClass b s) s).ds (storeRun (regionClass b s) s).cc := by
  rw [storeRun_ds, storeRun_cc]
  exact { h with runShort := classifyBit_cnt_le _ _ _ h.runShort }

theorem countData_keeps_region {s : State} {m : SyncMode} (d : Bool) (h : RegionInv m s.ds s.cc) :
    RegionInv m (countData d s).ds (countData d s).cc := by
  rw [countData_ds, countData_cc]
  split
  · exact { h with }
  · exact h

/-- R187: at the region's end the CRC engine is in DONE. -/
theorem regionEnd_keeps_region {s : State} {m : SyncMode} (h : RegionInv m s.ds s.cc) :
    RegionInv m (regionEnd s).ds (regionEnd s).cc := by
  rw [regionEnd_ds, regionEnd_cc]
  split
  · rename_i hend
    have hdone := (h.endRequested hend.1).2
    exact { h with
      regionInSync := fun ha => nomatch ha
      phaseInRegion := fun hp => by simp [hdone] at hp
      endRequested := fun he => nomatch he }
  · exact h

theorem destuffBit_keeps_region (n : Time) (b : Level) (sof : Bool) {s : State} {m : SyncMode}
    (h : RegionInv m s.ds s.cc) : RegionInv m (destuffBit n b sof s).ds (destuffBit n b sof s).cc := by
  unfold destuffBit
  split
  · rename_i hact
    have hcrc := (crcBit_effect b (regionClass b s).data (regionClass b s).stuff _).keeps_region
      (storeRun_keeps_region b h) (by simpa using hact)
    have hcount := countData_keeps_region (regionClass b s).data hcrc
    exact regionEnd_keeps_region (by simpa [regionCrc] using hcount)
  · simpa [outsideBit] using h

/-! ### The bit timing -/

theorem configOk_iff (g : CfgRegs) : configOk g = true ↔
    g.lthr.toInt < g.hthr.toInt ∧ 1 ≤ g.nbp.toNat ∧ g.spo.toNat < g.nbp.toNat ∧ g.sjw.toNat < g.nbp.toNat := by
  simp [configOk, and_assoc]

/-- The first sample of a bit of full length. -/
theorem inBit_start {g : CfgRegs} (hok : configOk g = true) {c : ClockRecovery} (hph : c.ph = 0#16)
    (hlen : c.blen = g.nbp) : InBit g c := by
  obtain ⟨-, hnbp, -⟩ := (configOk_iff g).mp hok
  exact ⟨by rw [hph, hlen]; exact hnbp, by rw [hlen], fun _ => by simp [hph], fun _ => hlen⟩

/-- R144: a bit that is not due for sampling moves on to its next sample, or a new bit begins. -/
theorem bitBoundary_inBit {g : CfgRegs} (hok : configOk g = true) {c : ClockRecovery} (h : InBit g c)
    (hdue : c.smp = false → c.ph ≠ g.spo) : InBit g (bitBoundary g.nbp c) := by
  have hlt := h.phase
  unfold bitBoundary
  dsimp only
  split
  · exact inBit_start hok rfl rfl
  · rename_i hne
    exact ⟨by bv_omega, h.fits, fun hu => by have := h.toPoint hu; have := hdue hu; bv_omega, h.full⟩

theorem lateShift_inBit {g : CfgRegs} (sjw : BitVec 16) {c : ClockRecovery} (h : InBit g c) : InBit g (lateShift sjw c) := by
  have hle : (lateShift sjw c).ph.toNat ≤ c.ph.toNat := by
    simp only [lateShift, BitVec.toNat_ofNat]
    omega
  exact ⟨hle.trans_lt h.phase, h.fits, fun hu => hle.trans (h.toPoint hu), h.full⟩

/-- R149: the length an early edge leaves is exact, and not below the phase. -/
theorem earlyLength_toNat (sjw : BitVec 16) {c : ClockRecovery} (h : c.ph.toNat < c.blen.toNat) :
    (BitVec.ofInt 16 ((c.blen.toNat : Int) - min ((c.blen.toNat : Int) - c.ph.toNat) sjw.toNat)).toNat =
      c.blen.toNat - min (c.blen.toNat - c.ph.toNat) sjw.toNat := by
  have he : (c.blen.toNat : Int) - min ((c.blen.toNat : Int) - c.ph.toNat) sjw.toNat =
      ((c.blen.toNat - min (c.blen.toNat - c.ph.toNat) sjw.toNat : Nat) : Int) := by omega
  rw [he, BitVec.ofInt_natCast, BitVec.toNat_ofNat]
  omega

/-- R149: an early edge shortens a sampled bit, or ends it at once. -/
theorem earlyShift_inBit {g : CfgRegs} (hok : configOk g = true) (sjw : BitVec 16) {c : ClockRecovery} (h : InBit g c)
    (hsmp : c.smp = true) : InBit g (earlyShift g.nbp sjw c) := by
  have hlen := earlyLength_toNat sjw h.phase
  have hlt := h.phase
  have hfits := h.fits
  unfold earlyShift
  dsimp only
  split
  · exact inBit_start hok rfl rfl
  · rename_i hne
    exact ⟨by dsimp only; bv_omega, by dsimp only; omega, fun hu => by simp [hsmp] at hu, fun hu => by simp [hsmp] at hu⟩

/-- R148: an edge that is not late meets a sampled bit. -/
theorem sampled_of_not_late {c : ClockRecovery} (h : ¬ edgeIsLate c = true) : c.smp = true := by
  cases hs : c.smp with
  | true => rfl
  | false => exact absurd (by simp [edgeIsLate, hs]) h

theorem softResync_inBit {g : CfgRegs} (hok : configOk g = true) (sjw : BitVec 16) (edge : Bool) {c : ClockRecovery}
    (h : InBit g c) : InBit g (softResync g.nbp sjw edge c) := by
  unfold softResync
  split
  · split
    · exact lateShift_inBit sjw h
    · exact earlyShift_inBit hok sjw h (sampled_of_not_late ‹_›)
  · exact h

/-! ### Clock recovery -/

@[simp] theorem bitBoundary_crm (nbp : BitVec 16) (c : ClockRecovery) : (bitBoundary nbp c).crm = c.crm := by
  unfold bitBoundary; dsimp only; split <;> rfl

@[simp] theorem softResync_crm (nbp sjw : BitVec 16) (edge : Bool) (c : ClockRecovery) :
    (softResync nbp sjw edge c).crm = c.crm := by
  unfold softResync
  split
  · split
    · rfl
    · unfold earlyShift; dsimp only; split <;> rfl
  · rfl

/-- A step of the bit timing keeps the SOF mark and leaves no bit sampled that was not. -/
theorem bitBoundary_marks (nbp : BitVec 16) (c : ClockRecovery) :
    (bitBoundary nbp c).sofp = c.sofp ∧ ((bitBoundary nbp c).smp = true → c.smp = true) := by
  unfold bitBoundary
  dsimp only
  split
  · exact ⟨rfl, fun h => nomatch h⟩
  · exact ⟨rfl, id⟩

theorem softResync_marks (nbp sjw : BitVec 16) (edge : Bool) (c : ClockRecovery) :
    (softResync nbp sjw edge c).sofp = c.sofp ∧ ((softResync nbp sjw edge c).smp = true → c.smp = true) := by
  unfold softResync
  split
  · split
    · exact ⟨rfl, id⟩
    · unfold earlyShift
      dsimp only
      split
      · exact ⟨rfl, fun h => nomatch h⟩
      · exact ⟨rfl, id⟩
  · exact ⟨rfl, id⟩

/-- What hunting or running can do (R143, R144): nothing in HUNT without a confirmed SOF, the hard synchronisation at one,
and in SYNC one step of the bit timing. -/
inductive TimingEffect (edge : Bool) (s : State) : State → Prop where
  | hunt (hm : s.cr.crm = .hunt) : TimingEffect edge s s
  | sof (hm : s.cr.crm = .hunt) (he : edge = true) (hidle : s.cfg.nbp.toNat ≤ s.cr.idlecnt.toNat) :
    TimingEffect edge s (hardSync s)
  | run (hm : s.cr.crm = .sync) : TimingEffect edge s (syncStep edge s)

theorem timingStep_effect (edge : Bool) (s : State) : TimingEffect edge s (timingStep edge s) := by
  unfold timingStep
  split
  · unfold huntStep
    split
    · rename_i hm hsof
      exact .sof hm hsof.1 hsof.2
    · exact .hunt ‹_›
  · exact .run ‹_›

/-- The invariant between the timing step and the sampling: the bit may be due for sampling. -/
structure MidStep (s : State) : Prop where
  config : configOk s.cfg = true
  queueShort : s.gf.rq.length < s.window
  inBit : s.cr.crm = .sync → InBit s.cfg s.cr
  region : RegionInv s.cr.crm s.ds s.cc
  sync : SyncInv s.cr
  queue : QueueInv s

/-- With the block running, the invariant is `MidStep` with no sampling due. -/
theorem inv_iff_midStep {s : State} (hen : s.ctrl.en = true) : Inv s ↔ MidStep s ∧ samplingDue s = false := by
  rw [inv_iff, running_iff]
  constructor
  · rintro ⟨hrun, hreg, hsync, hq⟩
    obtain ⟨hok, hrq, hbit, hdue⟩ := hrun hen
    exact ⟨⟨hok, hrq, hbit, hreg, hsync, hq⟩, hdue⟩
  · rintro ⟨⟨hok, hrq, hbit, hreg, hsync, hq⟩, hdue⟩
    exact ⟨fun _ => ⟨hok, hrq, hbit, hdue⟩, hreg, hsync, hq⟩

theorem hardSync_midStep {s : State} (h : MidStep s) : MidStep (hardSync s) where
  config := h.config
  queueShort := h.queueShort
  inBit _ := inBit_start h.config rfl rfl
  region := ⟨by simp, fun _ => rfl, fun _ => rfl, by simp, by simp, fun _ => rfl, by simp⟩
  sync := ⟨fun _ => rfl, by simp⟩
  queue := h.queue.of_eq rfl rfl

theorem syncStep_midStep (edge : Bool) {s : State} (h : MidStep s) (hm : s.cr.crm = .sync)
    (hdue : samplingDue s = false) : MidStep (syncStep edge s) where
  config := h.config
  queueShort := h.queueShort
  inBit _ := softResync_inBit h.config _ _ (bitBoundary_inBit h.config (h.inBit hm)
    fun hu => by simpa [samplingDue, hm, hu] using hdue)
  region := by simpa using h.region
  sync := by
    obtain ⟨hsof, hsmp⟩ := softResync_marks s.cfg.nbp s.cfg.sjw edge (bitBoundary s.cfg.nbp s.cr)
    obtain ⟨hsof', hsmp'⟩ := bitBoundary_marks s.cfg.nbp s.cr
    refine ⟨fun hp => Bool.eq_false_iff.mpr fun hs => ?_, fun hh => by simp [hm] at hh⟩
    exact absurd (h.sync.sofUnsampled (hsof'.symm.trans (hsof.symm.trans hp))) (by simp [hsmp' (hsmp hs)])
  queue := h.queue.of_eq rfl rfl

theorem timingStep_midStep (edge : Bool) {s : State} (h : MidStep s) (hdue : samplingDue s = false) :
    MidStep (timingStep edge s) := by
  have he := timingStep_effect edge s
  generalize timingStep edge s = t at he
  cases he with
  | hunt => exact h
  | sof => exact hardSync_midStep h
  | run hm => exact syncStep_midStep edge h hm hdue

theorem destuffBit_keeps_inv (n : Time) (b : Level) (sof : Bool) {s : State} (h : Inv s) :
    Inv (destuffBit n b sof s) := by
  have hf := destuffBit_frame n b sof s
  obtain ⟨hrun, hreg, hsync, hq⟩ := (inv_iff s).mp h
  refine (inv_iff _).mpr ⟨fun he => ?_, ?_, ?_, destuffBit_keeps_queue n b sof hq⟩
  · have hr := (running_iff s).mp (hrun (hf.ctrl ▸ he))
    exact (running_iff _).mpr (by simpa [samplingDue, State.window, hf.cfg] using hr)
  · rw [destuffBit_cr]
    exact destuffBit_keeps_region n b sof hreg
  · rwa [destuffBit_cr]

/-- The state handed to the destuffer at a sampling (R145). -/
def markSampled (s : State) : State := { s with cr := { s.cr with smp := true, rsy := false, sofp := false } }

theorem markSampled_keeps_inv {s : State} (hen : s.ctrl.en = true) (hm : s.cr.crm = .sync) (h : MidStep s) :
    Inv (markSampled s) := by
  have hbit := h.inBit hm
  have hen' : (markSampled s).ctrl.en = true := hen
  refine (inv_iff_midStep hen').mpr ⟨⟨h.config, h.queueShort, fun _ => ?_, h.region, ?_, h.queue.of_eq rfl rfl⟩, ?_⟩
  · exact ⟨hbit.phase, hbit.fits, by simp [markSampled], by simp [markSampled]⟩
  · exact ⟨by simp [markSampled], by simp [markSampled, hm]⟩
  · simp [samplingDue, markSampled]

theorem sampleStep_of_due (n : Time) (f : Level) {s : State} (h : samplingDue s = true) :
    sampleStep n f s = destuffBit n f s.cr.sofp (markSampled s) := by
  unfold sampleStep
  rw [if_pos h]
  rfl

theorem sampleStep_of_not_due (n : Time) (f : Level) {s : State} (h : samplingDue s = false) : sampleStep n f s = s := by
  unfold sampleStep
  rw [if_neg (by simp [h])]

/-- After the sampling no bit is due: the one at its sample point has just been sampled. -/
theorem sampleStep_keeps_inv (n : Time) (f : Level) {s : State} (hen : s.ctrl.en = true) (h : MidStep s) :
    Inv (sampleStep n f s) := by
  cases hdue : samplingDue s with
  | false =>
    rw [sampleStep_of_not_due n f hdue]
    exact (inv_iff_midStep hen).mpr ⟨h, hdue⟩
  | true =>
    rw [sampleStep_of_due n f hdue]
    exact destuffBit_keeps_inv n f _ (markSampled_keeps_inv hen ((samplingDue_iff s).mp hdue).1 h)

theorem idleStep_keeps_inv (f : Level) {s : State} (h : Inv s) : Inv (idleStep f s) := by
  obtain ⟨hrun, hreg, hsync, hq⟩ := (inv_iff s).mp h
  refine (inv_iff _).mpr ⟨fun he => ?_, hreg, ⟨hsync.sofUnsampled, hsync.huntCleared⟩, hq.of_eq rfl rfl⟩
  exact ⟨(hrun he).config, (hrun he).queueShort, (hrun he).phaseInBit, (hrun he).unsampledBeforePoint,
    (hrun he).unsampledFull⟩

theorem clockRecoveryStep_keeps_inv (n : Time) (f fp : Level) {s : State} (hen : s.ctrl.en = true) (h : Inv s) :
    Inv (clockRecoveryStep n f fp s) := by
  obtain ⟨hmid, hdue⟩ := (inv_iff_midStep hen).mp h
  have hen' : (timingStep (isEdge f fp) s).ctrl.en = true := (timingStep_frame _ s).ctrl ▸ hen
  exact idleStep_keeps_inv f (sampleStep_keeps_inv n f hen' (timingStep_midStep _ hmid hdue))

/-! ### The tick -/

theorem comparatorStep_keeps_inv (n : Time) (v : Word) {s : State} (h : Inv s) : Inv (comparatorStep n v s) :=
  have hf := comparatorStep_frame n v s
  inv_congr h (congrArg _ hf.ctrl) hf.cfg (by simp) (by simp) (by simp) (by simp)
    (comparatorStep_keeps_queue n v (inv_queue h))

theorem glitchDetect_keeps_inv (n : Time) (raw : Level) {s : State} (h : Inv s) : Inv (glitchDetect n raw s) :=
  have hf := glitchDetect_frame n raw s
  inv_congr h (congrArg _ hf.ctrl) hf.cfg (by simp) (by simp) (by simp) (by simp)
    (glitchDetect_keeps_queue n raw (inv_queue h))

/-- A queue of any length short of a window may stand in the filter. -/
theorem inv_with_filter {s : State} (h : Inv s) (g : GlitchFilter) (hg : g.rq.length < s.window) :
    Inv { s with gf := g } := by
  obtain ⟨hrun, hreg, hsync, hq⟩ := (inv_iff s).mp h
  refine (inv_iff _).mpr ⟨fun he => ?_, hreg, hsync, hq.of_eq rfl rfl⟩
  exact ⟨(hrun he).config, hg, (hrun he).phaseInBit, (hrun he).unsampledBeforePoint, (hrun he).unsampledFull⟩

/-- R141: a full window is decided and its oldest level dropped. -/
theorem glitchFilter_keeps_inv (n : Time) (raw : Level) {s : State} (hen : s.ctrl.en = true) (h : Inv s) :
    Inv (glitchFilter n raw s) := by
  have hshort := (h.running hen).queueShort
  have hlen : (s.gf.rq ++ [raw]).length = s.gf.rq.length + 1 := by simp
  unfold glitchFilter
  dsimp only
  split
  · exact clockRecoveryStep_keeps_inv _ _ _ hen (inv_with_filter h _ (by rw [List.length_tail]; omega))
  · exact inv_with_filter h _ (by dsimp only; omega)

theorem tick_keeps_inv (v : Word) {s : State} (hen : s.ctrl.en = true) (h : Inv s) : Inv (tick v s) := by
  have hc : Inv (compared v s) := comparatorStep_keeps_inv _ _ h
  have hd : Inv (detected v s) := glitchDetect_keeps_inv _ _ hc
  have hen' : (detected v s).ctrl.en = true := by
    have hf := (comparatorStep_frame s.time v s).trans (glitchDetect_frame s.time (compared v s).cmp.lvl _)
    exact hf.ctrl ▸ hen
  have hf := glitchFilter_keeps_inv s.time (compared v s).cmp.lvl hen' hd
  rw [tick_eq]
  generalize glitchFilter s.time (compared v s).cmp.lvl (detected v s) = u at hf
  exact inv_congr hf rfl rfl rfl rfl rfl rfl ((inv_queue hf).of_eq rfl rfl)

/-! ### The operations -/

/-- The invariant holds in a state at the initial values of the pipeline, with no bound on the configuration needed: the
filter queue is empty and clock recovery hunts. -/
theorem inv_of_init {s : State} (hok : s.ctrl.en = true → configOk s.cfg = true) (hgf : s.gf = GlitchFilter.init)
    (hcr : s.cr = ClockRecovery.init) (hds : s.ds = Destuffer.init) (hcc : s.cc = CrcControl.init) (hq : QueueInv s) :
    Inv s := by
  refine (inv_iff s).mpr ⟨fun he => (running_iff s).mpr ⟨hok he, ?_, ?_, ?_⟩, ?_, ?_, hq⟩
  · simp [hgf, GlitchFilter.init, State.window]
  · simp [hcr, ClockRecovery.init]
  · simp [samplingDue, hcr, ClockRecovery.init]
  · rw [hds, hcc]
    constructor <;> simp [Destuffer.init, CrcControl.init]
  · rw [hcr]
    constructor <;> simp [ClockRecovery.init]

theorem resetWith_inv (p : Config.Params) (h : HostPort) : Inv (State.resetWith p h) :=
  inv_of_init (fun he => nomatch he) rfl rfl rfl rfl ⟨Nat.zero_le _, fun _ hr => nomatch hr⟩

/-- While EN = 0 the configuration and the mode fields may change. -/
theorem inv_of_disabled {s t : State} (h : Inv s) (hen : t.ctrl.en = false) (hcr : t.cr = s.cr) (hds : t.ds = s.ds)
    (hcc : t.cc = s.cc) (hp : t.params = s.params) (hq : t.evq = s.evq) : Inv t := by
  obtain ⟨-, hreg, hsync, hqueue⟩ := (inv_iff s).mp h
  exact (inv_iff t).mpr ⟨fun he => by simp [hen] at he, by rwa [hcr, hds, hcc], by rwa [hcr], hqueue.of_eq hp hq⟩

theorem writeCtrl_keeps_inv (v : Word) {s : State} (h : Inv s) : Inv (writeCtrl v s) := by
  have he := writeCtrl_effect v s
  generalize writeCtrl v s = t at he
  cases he with
  | stayEnabled => exact h
  | disable => exact inv_of_disabled h rfl rfl rfl rfl rfl rfl
  | enable _ _ hok => exact inv_of_init (fun _ => hok) rfl rfl rfl rfl ((inv_queue h).of_eq rfl rfl)
  | refuseEnable hen => exact inv_of_disabled h hen rfl rfl rfl rfl rfl
  | setModes hen => exact inv_of_disabled h hen rfl rfl rfl rfl rfl

theorem crcStop_keeps_inv {s : State} (h : Inv s) : Inv (crcStop s) := by
  unfold crcStop
  split
  · rename_i hcov
    obtain ⟨hrun, hreg, hsync, hq⟩ := (inv_iff s).mp h
    refine (inv_iff _).mpr ⟨fun he => ?_, { hreg with stopInCover := fun _ => hcov.2 }, hsync, hq.of_eq rfl rfl⟩
    exact (running_iff _).mpr ((running_iff s).mp (hrun he))
  · exact inv_congr h rfl rfl rfl rfl rfl rfl ((inv_queue h).of_eq rfl rfl)

theorem release_keeps_inv {s : State} (h : Inv s) : Inv (release s) := by
  unfold release
  split
  · exact h
  · obtain ⟨hrun, hreg, hsync, hq⟩ := (inv_iff s).mp h
    refine (inv_iff _).mpr ⟨fun he => ?_, ?_, ?_, hq.of_eq rfl rfl⟩
    · exact (running_iff _).mpr ⟨(hrun he).config, (hrun he).queueShort, by simp, by simp [samplingDue]⟩
    · constructor <;> simp
    · constructor <;> simp

theorem commandResult_keeps_inv (c : Command) {s : State} (h : Inv s) : Inv (commandResult c s) := by
  have hq := inv_queue h
  cases c with
  | nop => exact h
  | pop =>
    have hpop : QueueInv (popRecord s) :=
      ⟨(by simpa using hq.fits.trans (Nat.le_succ _)), fun r hr => hq.typed r (List.mem_of_mem_tail hr)⟩
    exact inv_congr h rfl rfl rfl rfl rfl rfl hpop
  | flush => exact inv_congr h rfl rfl rfl rfl rfl rfl ⟨Nat.zero_le _, fun _ hr => nomatch hr⟩
  | crcClear | crcFeed | glitchClr | reserved => exact inv_congr h rfl rfl rfl rfl rfl rfl (hq.of_eq rfl rfl)
  | crcStop => exact crcStop_keeps_inv h
  | release => exact release_keeps_inv h
  | reset => exact resetWith_inv _ _

theorem effect_keeps_inv {i : Instr} {s t : State} (he : Effect i s t) (h : Inv s) : Inv t := by
  have hq := inv_queue h
  cases he with
  | read | refuse | refuseRead | clear | crcdin | irqen =>
    exact inv_congr h rfl rfl rfl rfl rfl rfl (hq.of_eq rfl rfl)
  | control v => exact writeCtrl_keeps_inv v h
  | configure c _ hen => exact inv_of_disabled h hen rfl rfl rfl rfl rfl
  | tick v _ hen => exact tick_keeps_inv v hen h
  | command c => exact commandResult_keeps_inv c h

theorem takeEvent_keeps_inv (rest : List HostEvent) {s : State} (h : Inv s) : Inv (takeEvent rest s) :=
  inv_congr h rfl rfl rfl rfl rfl rfl ((inv_queue h).of_eq rfl rfl)

theorem illegalAccess_keeps_inv (write : Bool) {s : State} (h : Inv s) : Inv (illegalAccess write s) := by
  cases write <;> exact inv_congr h rfl rfl rfl rfl rfl rfl ((inv_queue h).of_eq rfl rfl)

/-- What a step that answers a next state did: nothing, a hardware reset, a refused illegal access or an operation
(R62, R64, R340), each of the last three in the state with the event taken from the host. -/
inductive StepEffect (s t : State) : Prop where
  | quiet (ht : t = s)
  | reset (rest : List HostEvent) (ht : t = resetBlock (takeEvent rest s))
  | illegal (rest : List HostEvent) (write : Bool) (ht : t = illegalAccess write (takeEvent rest s))
  | run (rest : List HostEvent) (i : Instr) (ht : exec i (takeEvent rest s) = .next t)

theorem accessRequest_cases (a : Access) (s : State) : accessRequest a s = .outside ∨
    accessRequest a s = .illegal a.write s ∨ ∃ i, accessRequest a s = .run i s := by
  unfold accessRequest
  split
  · exact .inl rfl
  · split
    · exact .inr (.inr ⟨_, rfl⟩)
    · exact .inr (.inl rfl)

theorem step_effect {s t : State} (h : step s = .next t) : StepEffect s t := by
  unfold step nextRequest at h
  rcases hp : s.host.pending with _ | ⟨a | _, rest⟩ <;> simp only [hp] at h
  · cases h
    exact .quiet rfl
  · rcases accessRequest_cases a (takeEvent rest s) with hr | hr | ⟨i, hr⟩ <;> simp only [hr] at h
    · cases h
    · cases h
      exact .illegal rest _ rfl
    · exact .run rest i h
  · cases h
    exact .reset rest rfl

/-- Settles O51. -/
theorem invariantHoldsAtReset : Obligations.InvariantHoldsAtReset := resetWith_inv

/-- Settles O52: operation by operation; in a tick, stage by stage, with `MidStep` between timing step and sampling. -/
theorem everyStepKeepsTheInvariant : Obligations.EveryStepKeepsTheInvariant := by
  intro s t h hst
  cases step_effect hst with
  | quiet ht => exact ht ▸ h
  | reset rest ht => exact ht ▸ resetWith_inv _ _
  | illegal rest write ht => exact ht ▸ illegalAccess_keeps_inv write (takeEvent_keeps_inv rest h)
  | run rest i ht => exact effect_keeps_inv (exec_effect ht) (takeEvent_keeps_inv rest h)

end Sys2Proof.Proofs

/-! ## Configuration, TIME and SYNC, and R46 as worded -/

namespace Sys2Proof.Proofs

open Sys2Proof.Machine Sys2Proof.Safety Sys2Proof.Laws

/-- Only RESET, among the commands, changes CTRL, the configuration or TIME. -/
theorem commandResult_frame {c : Command} (hc : c ≠ .reset) (s : State) : (commandResult c s).ctrl = s.ctrl ∧
    (commandResult c s).cfg = s.cfg ∧ (commandResult c s).time = s.time := by
  cases c with
  | nop | pop | flush | crcClear | crcFeed | glitchClr | reserved => exact ⟨rfl, rfl, rfl⟩
  | crcStop =>
    simp only [commandResult, crcStop]
    split <;> exact ⟨rfl, rfl, rfl⟩
  | release =>
    simp only [commandResult, release]
    split <;> exact ⟨rfl, rfl, rfl⟩
  | reset => exact absurd rfl hc

/-- Of the commands only RELEASE and RESET leave SYNC. -/
theorem commandResult_keeps_crm {c : Command} (hc : c ≠ .reset) (hr : c ≠ .release) (s : State) :
    (commandResult c s).cr.crm = s.cr.crm := by
  cases c with
  | nop | pop | flush | crcClear | crcFeed | glitchClr | reserved => rfl
  | crcStop =>
    simp only [commandResult, crcStop]
    split <;> rfl
  | release => exact absurd rfl hr
  | reset => exact absurd rfl hc

/-- Settles O55: but for RESET, what an operation may write is refused or left alone while EN = 1. -/
theorem configurationIsFrozenWhileEnabled : Obligations.ConfigurationIsFrozenWhileEnabled := by
  intro i s t hen hex hreset
  cases exec_effect hex with
  | read | refuse | refuseRead | clear | crcdin | irqen => exact ⟨rfl, rfl, rfl, rfl, rfl⟩
  | control v =>
    have he := writeCtrl_effect v s
    generalize writeCtrl v s = t at he
    cases he with
    | stayEnabled | disable => exact ⟨rfl, rfl, rfl, rfl, rfl⟩
    | enable hd | refuseEnable hd | setModes hd => simp [hen] at hd
  | configure _ _ hd => simp [hen] at hd
  | tick v =>
    have hf := tick_frame v s
    refine ⟨hf.cfg, ?_, ?_, ?_, ?_⟩ <;> rw [hf.ctrl]
  | command c hc =>
    obtain ⟨hctrl, hcfg, -⟩ := commandResult_frame (c := c) (fun he => hreset (he ▸ hc)) s
    refine ⟨hcfg, ?_, ?_, ?_, ?_⟩ <;> rw [hctrl]

/-! ### SYNC -/

theorem timingStep_keeps_sync (edge : Bool) {s : State} (h : s.cr.crm = .sync) : (timingStep edge s).cr.crm = .sync := by
  simp [timingStep, h]

theorem sampleStep_keeps_crm (n : Time) (f : Level) (s : State) : (sampleStep n f s).cr.crm = s.cr.crm := by
  cases hdue : samplingDue s with
  | false => rw [sampleStep_of_not_due n f hdue]
  | true =>
    rw [sampleStep_of_due n f hdue, destuffBit_cr]
    rfl

theorem clockRecoveryStep_keeps_sync (n : Time) (f fp : Level) {s : State} (h : s.cr.crm = .sync) :
    (clockRecoveryStep n f fp s).cr.crm = .sync :=
  (sampleStep_keeps_crm n f _).trans (timingStep_keeps_sync _ h)

theorem glitchFilter_keeps_sync (n : Time) (raw : Level) {s : State} (h : s.cr.crm = .sync) :
    (glitchFilter n raw s).cr.crm = .sync := by
  unfold glitchFilter
  dsimp only
  split
  · exact clockRecoveryStep_keeps_sync _ _ _ h
  · exact h

/-- R151: the block itself never leaves SYNC. -/
theorem tick_keeps_sync (v : Word) {s : State} (h : s.cr.crm = .sync) : (tick v s).cr.crm = .sync := by
  rw [tick_eq, advanceTime_cr]
  exact glitchFilter_keeps_sync _ _ (by simpa [detected, compared] using h)

/-- Settles O57. -/
theorem timeAndSyncChangeOnlyByTheirRules : Obligations.TimeAndSyncChangeOnlyByTheirRules := by
  intro i s t hex
  cases exec_effect hex with
  | read | refuse | refuseRead | clear | configure | crcdin | irqen =>
    exact ⟨.inl rfl, fun hs hh => absurd (hs.symm.trans hh) (by decide)⟩
  | control v hi =>
    have he := writeCtrl_effect v s
    generalize writeCtrl v s = t at he
    subst hi
    cases he with
    | stayEnabled | disable | refuseEnable | setModes =>
      exact ⟨.inl rfl, fun hs hh => absurd (hs.symm.trans hh) (by decide)⟩
    | enable hen => exact ⟨.inr (.inr ⟨rfl, .inr ⟨rfl, hen, rfl⟩⟩), fun _ _ => .inr (.inr ⟨rfl, hen, rfl⟩)⟩
  | tick v hi hen =>
    subst hi
    exact ⟨.inr (.inl ⟨rfl, hen, (tick_frame v s).time⟩),
      fun hs hh => absurd ((tick_keeps_sync v hs).symm.trans hh) (by decide)⟩
  | command c hc =>
    by_cases hreset : c = .reset
    · subst hreset
      exact ⟨.inr (.inr ⟨rfl, .inl hc⟩), fun _ _ => .inr (.inl hc)⟩
    · refine ⟨.inl (commandResult_frame hreset s).2.2, fun hs hh => ?_⟩
      by_cases hrel : c = .release
      · exact .inl (hrel ▸ hc)
      · rw [commandResult_keeps_crm hreset hrel, hs] at hh
        exact absurd hh (by decide)

/-! ### R46 as worded -/

/-- A word write of the host at a byte offset, for the base address 0. -/
def hostWrite (off : Nat) (v : Word) : HostEvent := .access { write := true, addr := off, size := 4, data := v }

/-- HTHR, NBP and MGW = 2 are set up, the block is enabled and takes one sample, which the filter queues; then it is
disabled and MGW is set to 0. -/
def shrunkWindowRun : List HostEvent :=
  [hostWrite 0x0C 1#32, hostWrite 0x14 1#32, hostWrite 0x20 2#32, hostWrite 0x04 1#32, hostWrite 0x58 0#32,
    hostWrite 0x04 0#32, hostWrite 0x20 0#32]

/-- What every step keeps a run keeps. -/
theorem run_keeps (M : Host.Core) {P : M.State → Prop} (hP : ∀ s t, P s → M.step s = .next t → P t) (n : Nat) :
    ∀ {s t : M.State}, P s → M.run n s = .next t → P t := by
  induction n with
  | zero =>
    intro s t hs h
    cases h
    exact hs
  | succ n ih =>
    intro s t hs h
    unfold Host.Core.run at h
    split at h
    · exact ih (hP _ _ hs ‹_›) h
    · cases h
    · cases h

/-- What a run of the machine comes to is reachable. -/
theorem reachable_run (n : Nat) {s t : State} (hs : Reachable s) (h : core.run n s = .next t) : Reachable t :=
  run_keeps core Reachable.step n hs h

/-- The run ends with one level queued, of a window that is now one level wide. -/
theorem shrunkWindowRun_ends : ∃ t, core.run 7 (State.resetWith Config.reference ⟨shrunkWindowRun, []⟩) = .next t ∧
    t.gf.rq.length = 1 ∧ t.window = 1 :=
  ⟨_, rfl, by decide, by decide⟩

/-- Refutes O53: in the state `shrunkWindowRun` comes to, the filter queue holds one level and W − 1 is 0. -/
theorem not_invariantsAsWordedOfEveryReachableState : ¬ Obligations.InvariantsAsWordedOfEveryReachableState := by
  intro h
  obtain ⟨t, hrun, hlen, hwin⟩ := shrunkWindowRun_ends
  have hworded := h t (reachable_run 7 (.reset Config.reference ⟨shrunkWindowRun, []⟩ (by decide)) hrun)
  exact absurd hworded.1 (by omega)

end Sys2Proof.Proofs

/-! ## The sticky bits -/

namespace Sys2Proof.Proofs

open Sys2Proof.Machine Sys2Proof.Safety Sys2Proof.Laws

/-- The condition `b` is not recorded in `s` and is in `t`. -/
def NewlySet (b : Sticky) (s t : State) : Prop := s.hasSticky b = false ∧ t.hasSticky b = true

/-- R86: every condition has a bit of its own. -/
theorem mask_getLsbD (b c : Sticky) : b.mask.getLsbD c.index = decide (b = c) := by
  cases b <;> cases c <;> rfl

theorem hasSticky_of_or {b : Sticky} {s t : State} (h : t.sticky = s.sticky ||| b.mask) (c : Sticky) :
    t.hasSticky c = (s.hasSticky c || decide (b = c)) := by
  rw [State.hasSticky, h, BitVec.getLsbD_or, mask_getLsbD]
  rfl

theorem hasSticky_of_eq {s t : State} (h : t.sticky = s.sticky) (c : Sticky) : t.hasSticky c = s.hasSticky c := by
  rw [State.hasSticky, h]
  rfl

theorem newlySet_of_or {b c : Sticky} {s t : State} (h : t.sticky = s.sticky ||| c.mask) (hb : NewlySet b s t) : b = c := by
  obtain ⟨hs, ht⟩ := hb
  rw [hasSticky_of_or h, hs, Bool.false_or, decide_eq_true_eq] at ht
  exact ht.symm

theorem not_newlySet_of_eq {b : Sticky} {s t : State} (h : t.sticky = s.sticky) : ¬ NewlySet b s t := by
  rintro ⟨hs, ht⟩
  rw [hasSticky_of_eq h, hs] at ht
  exact absurd ht (by decide)

/-- Whether a bit is newly set depends on the sticky bits before, and on nothing else before. -/
theorem NewlySet.of_base {b : Sticky} {s u t : State} (h : NewlySet b s t) (hu : u.sticky = s.sticky) : NewlySet b u t :=
  ⟨(hasSticky_of_eq hu b).trans h.1, h.2⟩

/-- A bit that two stages set was set by the first or by the second. -/
theorem NewlySet.split {b : Sticky} {s t : State} (h : NewlySet b s t) (u : State) : NewlySet b s u ∨ NewlySet b u t := by
  cases hu : u.hasSticky b with
  | false => exact .inr ⟨hu, h.2⟩
  | true => exact .inl ⟨h.1, hu⟩

/-! ### What each stage of a tick sets -/

theorem emit_sets {b : Sticky} {ty : RecordType} {data : BitVec 28} {aux : Word} {n : Time} {s : State}
    (h : NewlySet b s (emit ty data aux n s)) : b = .ovf := by
  rcases emit_cases ty data aux n s with ⟨-, he⟩ | ⟨-, he⟩ <;> rw [he] at h
  · exact absurd h (not_newlySet_of_eq rfl)
  · exact newlySet_of_or rfl h

theorem comparatorStep_sets {b : Sticky} {n : Time} {v : Word} {s : State} (h : NewlySet b s (comparatorStep n v s)) :
    b = .ovf := by
  unfold comparatorStep at h
  dsimp only at h
  split at h
  · exact emit_sets (h.of_base rfl)
  · exact absurd h (not_newlySet_of_eq rfl)

/-- R140: GLITCH is set where a run shorter than W ends. -/
theorem glitchDetect_sets {b : Sticky} {n : Time} {raw : Level} {s : State} (h : NewlySet b s (glitchDetect n raw s)) :
    b = .ovf ∨ (b = .glitch ∧ raw ≠ s.gf.runlv ∧ s.gf.runlen.toNat < s.window) := by
  unfold glitchDetect at h
  split at h
  · exact absurd h (not_newlySet_of_eq rfl)
  · rename_i hraw
    have hr : NewlySet b s (reportGlitch s) := h
    unfold reportGlitch at hr
    dsimp only at hr
    split at hr
    · rename_i hlen
      rcases hr.split (setSticky .glitch { s with glitchCnt := sat 32 (s.glitchCnt.toNat + 1) }) with hg | hg
      · exact .inr ⟨newlySet_of_or rfl hg, hraw, hlen⟩
      · exact .inl (emit_sets hg)
    · exact absurd hr (not_newlySet_of_eq rfl)

/-- R143: SOF is set by the hard synchronisation. -/
theorem timingStep_sets {b : Sticky} {edge : Bool} {s : State} (h : NewlySet b s (timingStep edge s)) :
    b = .sof ∧ s.cr.crm = .hunt ∧ edge = true ∧ s.cfg.nbp.toNat ≤ s.cr.idlecnt.toNat := by
  have he := timingStep_effect edge s
  generalize timingStep edge s = t at he h
  cases he with
  | hunt => exact absurd h (not_newlySet_of_eq rfl)
  | sof hm hedge hidle => exact ⟨newlySet_of_or rfl h, hm, hedge, hidle⟩
  | run => exact absurd h (not_newlySet_of_eq rfl)

/-- R183: a violation is the bit after a run of 5. -/
theorem classifyBit_serr {cnt : BitVec 3} {lv b : Level} (h : (classifyBit cnt lv b).serr = true) : cnt = 5#3 := by
  unfold classifyBit at h
  split at h
  · assumption
  · split at h <;> exact absurd h (by simp)

theorem storeRun_sets {b : Sticky} {c : BitClass} {s : State} (h : NewlySet b s (storeRun c s)) :
    b = .stuffErr ∧ c.serr = true := by
  cases hc : c.serr with
  | false => exact absurd h (not_newlySet_of_eq (by simp [hc]))
  | true => exact ⟨newlySet_of_or (by simp [hc]) h, rfl⟩

/-- What the rules of STUFF_ERR, CRC_ERR and CRC_OK ask of the region before and after one of its bits (R183, R217). -/
def RegionRule (b : Sticky) (s t : State) : Prop :=
  (b = .stuffErr ∧ s.ds.cnt = 5#3) ∨
  (b = .crcErr ∧ FieldBit s.cc ∧ s.cc.rxn = 14#4 ∧ t.rxcrc ≠ t.crc) ∨
  (b = .crcOk ∧ FieldBit s.cc ∧ s.cc.rxn = 14#4 ∧ t.rxcrc = t.crc)

/-- R217: the CRC engine sets a bit by the comparison only. -/
theorem CrcEffect.sets {b : Sticky} {s t : State} (he : CrcEffect s t) (h : NewlySet b s t) :
    FieldBit s.cc ∧ s.cc.rxn = 14#4 ∧ ((b = .crcErr ∧ t.rxcrc ≠ t.crc) ∨ (b = .crcOk ∧ t.rxcrc = t.crc)) := by
  cases he with
  | quiet _ _ hst => exact absurd h (not_newlySet_of_eq hst)
  | capture _ _ _ _ _ _ hst => exact absurd h (not_newlySet_of_eq hst)
  | compare hf hn _ _ _ hst =>
    refine ⟨hf, hn, ?_⟩
    by_cases hne : t.rxcrc ≠ t.crc
    · rw [if_pos hne] at hst
      exact .inl ⟨newlySet_of_or hst h, hne⟩
    · rw [if_neg hne] at hst
      exact .inr ⟨newlySet_of_or hst h, not_not.mp hne⟩

theorem regionCrc_sets {b : Sticky} {lv : Level} {s : State} (h : NewlySet b s (regionCrc lv s).st) :
    RegionRule b s (regionCrc lv s).st := by
  rcases h.split (storeRun (regionClass lv s) s) with hb | hb
  · obtain ⟨hb, hserr⟩ := storeRun_sets hb
    exact .inl ⟨hb, classifyBit_serr hserr⟩
  · have he := crcBit_effect lv (regionClass lv s).data (regionClass lv s).stuff (storeRun (regionClass lv s) s)
    obtain ⟨hf, hn, hc⟩ := he.sets hb
    rw [storeRun_cc] at hf hn
    exact .inr (hc.imp (fun ⟨hb, hne⟩ => ⟨hb, hf, hn, hne⟩) (fun ⟨hb, heq⟩ => ⟨hb, hf, hn, heq⟩))

theorem regionBit_sets {b : Sticky} {n : Time} {lv : Level} {sof : Bool} {s : State}
    (h : NewlySet b s (regionBit n lv sof s)) : b = .ovf ∨ RegionRule b s (regionBit n lv sof s) := by
  rcases h.split (regionCrc lv s).st with hb | hb
  · exact .inr (by simpa [RegionRule] using regionCrc_sets hb)
  · rcases regionBit_sticky n lv sof s with hs | hs
    · exact absurd hb (not_newlySet_of_eq hs)
    · exact .inl (newlySet_of_or hs hb)

theorem destuffBit_sets {b : Sticky} {n : Time} {lv : Level} {sof : Bool} {s : State}
    (h : NewlySet b s (destuffBit n lv sof s)) :
    b = .ovf ∨ (s.ds.dsAct = true ∧ RegionRule b s (destuffBit n lv sof s)) := by
  unfold destuffBit at h ⊢
  split at h
  · rename_i hact
    rw [if_pos hact]
    exact (regionBit_sets h).imp_right fun hr => ⟨hact, hr⟩
  · exact .inl (emit_sets h)

/-- In a region just opened no bit of the region's rules can be set. -/
theorem not_regionRule_hardSync {b : Sticky} {s t u : State} (hds : u.ds = (hardSync s).ds)
    (hcc : u.cc = (hardSync s).cc) : ¬ RegionRule b u t := by
  rintro (⟨-, hcnt⟩ | ⟨-, -, hrxn, -⟩ | ⟨-, -, hrxn, -⟩)
  · simp [hds] at hcnt
  · simp [hcc] at hrxn
  · simp [hcc] at hrxn

theorem RegionRule.congr {b : Sticky} {s s' t t' : State} (h : RegionRule b s t) (hds : s'.ds = s.ds) (hcc : s'.cc = s.cc)
    (hrx : t'.rxcrc = t.rxcrc) (hcrc : t'.crc = t.crc) : RegionRule b s' t' := by
  rwa [RegionRule, hds, hcc, hrx, hcrc]

/-- After the timing step a sampling in the region sets a bit by the region as it stood before that step: a region the step
has just opened sets none. -/
theorem sampleStep_timingStep_sets {b : Sticky} {n : Time} {f : Level} {edge : Bool} {s : State}
    (h : NewlySet b (timingStep edge s) (sampleStep n f (timingStep edge s))) :
    b = .ovf ∨ (s.cr.crm = .sync ∧ s.ds.dsAct = true ∧ RegionRule b s (sampleStep n f (timingStep edge s))) := by
  have he := timingStep_effect edge s
  generalize timingStep edge s = u at he h
  cases hdue : samplingDue u with
  | false =>
    rw [sampleStep_of_not_due n f hdue] at h
    exact absurd h (not_newlySet_of_eq rfl)
  | true =>
    rw [sampleStep_of_due n f hdue] at h ⊢
    refine (destuffBit_sets (s := markSampled u) h).imp_right fun ⟨hact, hr⟩ => ?_
    cases he with
    | hunt hm => exact absurd (hm.symm.trans ((samplingDue_iff _).mp hdue).1) (by decide)
    | sof => exact absurd hr (not_regionRule_hardSync (s := s) rfl rfl)
    | run hm => exact ⟨hm, hact, hr.congr rfl rfl rfl rfl⟩

/-- The rule of SOF: in HUNT, idle for NBP samples, at a Recessive to Dominant edge from `fp` to `f` (R143). -/
def SofRule (b : Sticky) (f fp : Level) (s : State) : Prop :=
  b = .sof ∧ s.cr.crm = .hunt ∧ s.cfg.nbp.toNat ≤ s.cr.idlecnt.toNat ∧ fp = .recessive ∧ f = .dominant

theorem clockRecoveryStep_sets {b : Sticky} {n : Time} {f fp : Level} {s : State}
    (h : NewlySet b s (clockRecoveryStep n f fp s)) :
    b = .ovf ∨ SofRule b f fp s ∨
      (s.cr.crm = .sync ∧ s.ds.dsAct = true ∧ RegionRule b s (clockRecoveryStep n f fp s)) := by
  have h' : NewlySet b s (sampleStep n f (timingStep (isEdge f fp) s)) := h
  rcases h'.split (timingStep (isEdge f fp) s) with hb | hb
  · obtain ⟨hb, hm, hedge, hidle⟩ := timingStep_sets hb
    exact .inr (.inl ⟨hb, hm, hidle, of_decide_eq_true hedge⟩)
  · refine (sampleStep_timingStep_sets hb).imp_right fun ⟨hm, hact, hr⟩ => .inr ⟨hm, hact, hr.congr rfl rfl rfl rfl⟩

theorem glitchFilter_sets {b : Sticky} {n : Time} {raw : Level} {s : State} (h : NewlySet b s (glitchFilter n raw s)) :
    b = .ovf ∨ SofRule b (glitchFilter n raw s).gf.flt s.gf.flt s ∨
      (s.cr.crm = .sync ∧ s.ds.dsAct = true ∧ RegionRule b s (glitchFilter n raw s)) := by
  unfold glitchFilter at h ⊢
  dsimp only at h ⊢
  split at h
  · rename_i hfull
    rw [if_pos hfull, clockRecoveryStep_gf]
    exact clockRecoveryStep_sets (h.of_base rfl)
  · exact absurd h (not_newlySet_of_eq rfl)

@[simp] theorem glitchDetect_cmp (n : Time) (raw : Level) (s : State) : (glitchDetect n raw s).cmp = s.cmp := by
  unfold glitchDetect reportGlitch
  dsimp only
  split
  · rfl
  · split <;> simp

@[simp] theorem tick_lvl (v : Word) (s : State) : (tick v s).cmp.lvl = (compared v s).cmp.lvl := by
  simp [tick_eq, detected]

/-- A tick sets a bit by the rule of the bit, in the state before the tick. -/
theorem tick_sets {b : Sticky} {v : Word} {s : State} (h : NewlySet b s (tick v s)) :
    b = .ovf ∨ (b = .glitch ∧ (tick v s).cmp.lvl ≠ s.gf.runlv ∧ s.gf.runlen.toNat < s.window) ∨
      SofRule b (tick v s).gf.flt s.gf.flt s ∨
      (s.cr.crm = .sync ∧ s.ds.dsAct = true ∧ RegionRule b s (tick v s)) := by
  have hcfg : (compared v s).cfg = s.cfg := comparatorStep_cfg _ _ _
  have hgf : (compared v s).gf = s.gf := comparatorStep_gf _ _ _
  rcases h.split (compared v s) with hb | hb
  · exact .inl (comparatorStep_sets hb)
  rcases hb.split (detected v s) with hb | hb
  · rw [tick_lvl]
    exact (glitchDetect_sets hb).imp_right fun hg => .inl (by simpa [hgf, State.window, hcfg] using hg)
  · have hcr : (detected v s).cr = s.cr := (glitchDetect_cr _ _ _).trans (comparatorStep_cr _ _ _)
    have hds : (detected v s).ds = s.ds := (glitchDetect_ds _ _ _).trans (comparatorStep_ds _ _ _)
    have hcc : (detected v s).cc = s.cc := (glitchDetect_cc _ _ _).trans (comparatorStep_cc _ _ _)
    have hflt : (detected v s).gf.flt = s.gf.flt := (glitchDetect_flt _ _ _).trans (congrArg _ hgf)
    have hcfg' : (detected v s).cfg = s.cfg := (glitchDetect_frame _ _ _).cfg.trans hcfg
    rw [tick_eq] at hb ⊢
    generalize hg : glitchFilter s.time (compared v s).cmp.lvl (detected v s) = g at hb ⊢
    have hr := glitchFilter_sets (b := b) (s := detected v s) (n := s.time) (raw := (compared v s).cmp.lvl) (hg ▸ hb)
    rw [hg, SofRule, hcr, hds, hflt, hcfg'] at hr
    exact hr.imp_right fun hr => .inr (hr.imp_right fun ⟨hm, hact, hrr⟩ => ⟨hm, hact, hrr.congr hds.symm hcc.symm rfl rfl⟩)

/-! ### OVF is set with EVQ full, and EVQ stays full to the end of the tick -/

/-- EVQ holds EVQ_DEPTH records. -/
def Full (s : State) : Prop := s.evq.length = s.params.evqDepth

/-- From `s` to `t` a full EVQ stays full, and OVF is set only with EVQ full at the end. -/
structure Overflow (s t : State) : Prop where
  full : Full s → Full t
  flagged : NewlySet .ovf s t → Full t

theorem Overflow.trans {s t u : State} (h : Overflow s t) (g : Overflow t u) : Overflow s u where
  full := g.full ∘ h.full
  flagged hb := (hb.split t).elim (fun hb => g.full (h.flagged hb)) g.flagged

/-- A change that leaves EVQ alone and does not set OVF. -/
theorem Overflow.of_eq {s t : State} (hp : t.params = s.params) (hq : t.evq = s.evq) (hb : ¬ NewlySet .ovf s t) :
    Overflow s t :=
  ⟨fun hf => by rwa [Full, hp, hq], fun h => absurd h hb⟩

/-- Only EVQ, the parameters and the sticky bits count before a stage. -/
theorem Overflow.of_base {s t u : State} (h : Overflow u t) (hp : u.params = s.params) (hq : u.evq = s.evq)
    (hst : u.sticky = s.sticky) : Overflow s t :=
  Overflow.trans (.of_eq hp hq (not_newlySet_of_eq hst)) h

theorem emit_overflow (ty : RecordType) (data : BitVec 28) (aux : Word) (n : Time) (s : State) :
    Overflow s (emit ty data aux n s) := by
  rcases emit_cases ty data aux n s with ⟨hroom, he⟩ | ⟨hfull, he⟩ <;> rw [he]
  · exact ⟨fun hf => absurd hf hroom, fun hb => absurd hb (not_newlySet_of_eq rfl)⟩
  · exact ⟨fun _ => hfull, fun _ => hfull⟩

theorem comparatorStep_overflow (n : Time) (v : Word) (s : State) : Overflow s (comparatorStep n v s) := by
  unfold comparatorStep
  dsimp only
  split
  · exact (emit_overflow _ _ _ _ _).of_base rfl rfl rfl
  · exact .of_eq rfl rfl (not_newlySet_of_eq rfl)

theorem reportGlitch_overflow (s : State) : Overflow s (reportGlitch s) := by
  unfold reportGlitch
  dsimp only
  split
  · have hg : Overflow s (setSticky .glitch { s with glitchCnt := sat 32 (s.glitchCnt.toNat + 1) }) :=
      .of_eq rfl rfl fun hb => absurd (newlySet_of_or (c := .glitch) rfl hb) (by decide)
    exact hg.trans (emit_overflow _ _ _ _ _)
  · exact .of_eq rfl rfl (not_newlySet_of_eq rfl)

theorem glitchDetect_overflow (n : Time) (raw : Level) (s : State) : Overflow s (glitchDetect n raw s) := by
  unfold glitchDetect
  split
  · exact .of_eq rfl rfl (not_newlySet_of_eq rfl)
  · exact (reportGlitch_overflow s).trans (.of_eq rfl rfl (not_newlySet_of_eq rfl))

theorem emitCrcRecord_overflow (n : Time) (r : Option (BitVec 28 × Word)) (s : State) :
    Overflow s (emitCrcRecord n r s) := by
  cases r with
  | none => exact .of_eq rfl rfl (not_newlySet_of_eq rfl)
  | some p => exact emit_overflow _ _ _ _ s

theorem regionBit_overflow (n : Time) (b : Level) (sof : Bool) (s : State) : Overflow s (regionBit n b sof s) := by
  have hcrc : Overflow s (regionCrc b s).st :=
    .of_eq ((storeRun_frame _ s).trans (crcBit_frame _ _ _ _)).params (by simp [regionCrc])
      fun hb => by simpa [RegionRule] using regionCrc_sets hb
  have hcount : Overflow (regionCrc b s).st (countData (regionClass b s).data (regionCrc b s).st) :=
    .of_eq (countData_params _ _) (countData_evq _ _) (not_newlySet_of_eq (countData_sticky _ _))
  exact hcrc.trans (hcount.trans ((emit_overflow _ _ _ _ _).trans ((emitCrcRecord_overflow _ _ _).trans
    (.of_eq (regionEnd_params _) (regionEnd_evq _) (not_newlySet_of_eq (regionEnd_sticky _))))))

theorem destuffBit_overflow (n : Time) (b : Level) (sof : Bool) (s : State) : Overflow s (destuffBit n b sof s) := by
  unfold destuffBit
  split
  · exact regionBit_overflow n b sof s
  · exact emit_overflow _ _ _ _ s

theorem timingStep_overflow (edge : Bool) (s : State) : Overflow s (timingStep edge s) :=
  .of_eq (timingStep_frame edge s).params (timingStep_evq edge s) fun hb => by simpa using (timingStep_sets hb).1

theorem sampleStep_overflow (n : Time) (f : Level) (s : State) : Overflow s (sampleStep n f s) := by
  cases hdue : samplingDue s with
  | false =>
    rw [sampleStep_of_not_due n f hdue]
    exact .of_eq rfl rfl (not_newlySet_of_eq rfl)
  | true =>
    rw [sampleStep_of_due n f hdue]
    exact (destuffBit_overflow _ _ _ (markSampled s)).of_base rfl rfl rfl

theorem clockRecoveryStep_overflow (n : Time) (f fp : Level) (s : State) : Overflow s (clockRecoveryStep n f fp s) :=
  (timingStep_overflow _ s).trans ((sampleStep_overflow n f _).trans (.of_eq rfl rfl (not_newlySet_of_eq rfl)))

theorem glitchFilter_overflow (n : Time) (raw : Level) (s : State) : Overflow s (glitchFilter n raw s) := by
  unfold glitchFilter
  dsimp only
  split
  · exact (clockRecoveryStep_overflow _ _ _ _).of_base rfl rfl rfl
  · exact .of_eq rfl rfl (not_newlySet_of_eq rfl)

theorem tick_overflow (v : Word) (s : State) : Overflow s (tick v s) := by
  have hf : Overflow s (glitchFilter s.time (compared v s).cmp.lvl (detected v s)) :=
    (comparatorStep_overflow s.time v s).trans ((glitchDetect_overflow _ _ _).trans (glitchFilter_overflow _ _ _))
  rw [tick_eq]
  exact hf.trans (.of_eq (advanceTime_params _) (advanceTime_evq _) (not_newlySet_of_eq (advanceTime_sticky _)))

/-! ### What an operation sets and clears -/

theorem writeCtrl_sets {b : Sticky} {v : Word} {s : State} (h : NewlySet b s (writeCtrl v s)) :
    b = .setupErr ∧ v.getLsbD 0 = true ∧ s.ctrl.en = false ∧ configOk s.cfg = false := by
  have he := writeCtrl_effect v s
  generalize writeCtrl v s = t at he h
  cases he with
  | stayEnabled | disable | enable | setModes => exact absurd h (not_newlySet_of_eq rfl)
  | refuseEnable hen hv hok => exact ⟨newlySet_of_or rfl h, hv, hen, hok⟩

/-- R256, R262: of the commands, CRC_STOP without a covered region and a reserved word set a bit, CMD_ERR. -/
theorem commandResult_sets {b : Sticky} {c : Command} {s : State} (h : NewlySet b s (commandResult c s)) :
    b = .cmdErr ∧ ((c = .crcStop ∧ ¬ (s.ds.dsAct = true ∧ s.cc.crcph = .cover)) ∨ ∃ v, c = .reserved v) := by
  cases c with
  | nop | pop | flush | crcClear | crcFeed | glitchClr => exact absurd h (not_newlySet_of_eq rfl)
  | crcStop =>
    simp only [commandResult, crcStop] at h
    split at h
    · exact absurd h (not_newlySet_of_eq rfl)
    · exact ⟨newlySet_of_or rfl h, .inl ⟨rfl, ‹_›⟩⟩
  | release =>
    simp only [commandResult, release] at h
    split at h <;> exact absurd h (not_newlySet_of_eq rfl)
  | reset => exact absurd h.2 (by simp [commandResult, State.hasSticky])
  | reserved v => exact ⟨newlySet_of_or rfl h, .inr ⟨v, rfl⟩⟩

/-- R246: a bit written as 1 is cleared, any other is kept. -/
theorem clearSticky_hasSticky (v : Word) (s : State) (b : Sticky) :
    (clearSticky v s).hasSticky b = (s.hasSticky b && !v.getLsbD b.index) := by
  have hlt : b.index < 9 := by cases b <;> decide
  simp [State.hasSticky, hlt]

/-- A bit that an operation sets belongs to a refused access, a refused enable, a command error or a tick. -/
theorem effect_sets {b : Sticky} {i : Instr} {s t : State} (he : Effect i s t) (h : NewlySet b s t) :
    (b = .accErr ∧ Refused i s) ∨
    (b = .setupErr ∧ ∃ v, i = .wrCtrl v ∧ v.getLsbD 0 = true ∧ s.ctrl.en = false ∧ configOk s.cfg = false) ∨
    (b = .cmdErr ∧ ((commandOf i = some .crcStop ∧ ¬ (s.ds.dsAct = true ∧ s.cc.crcph = .cover)) ∨
      ∃ v, commandOf i = some (.reserved v))) ∨
    (sampleWrite i = true ∧ s.ctrl.en = true ∧ ∃ v, t = tick v s) := by
  cases he with
  | read | configure | crcdin | irqen => exact absurd h (not_newlySet_of_eq rfl)
  | refuse hi => exact .inl ⟨newlySet_of_or rfl h, hi⟩
  | refuseRead hi => exact .inl ⟨newlySet_of_or rfl h, .inr (.inl hi)⟩
  | control v hi =>
    obtain ⟨hb, hv, hen, hok⟩ := writeCtrl_sets h
    exact .inr (.inl ⟨hb, v, hi, hv, hen, hok⟩)
  | clear v =>
    obtain ⟨hs, ht⟩ := h
    simp [clearSticky_hasSticky, hs] at ht
  | tick v hi hen => exact .inr (.inr (.inr ⟨hi ▸ rfl, hen, v, rfl⟩))
  | command c hi =>
    obtain ⟨hb, hc⟩ := commandResult_sets h
    refine .inr (.inr (.inl ⟨hb, hc.imp (fun ⟨hc, hcov⟩ => ⟨hc ▸ hi, hcov⟩) fun ⟨v, hc⟩ => ⟨v, hc ▸ hi⟩⟩))

/-- The condition `b` is recorded in `s` and is not in `t`. -/
def Cleared (b : Sticky) (s t : State) : Prop := s.hasSticky b = true ∧ t.hasSticky b = false

theorem not_cleared_of_eq {b : Sticky} {s t : State} (h : t.sticky = s.sticky) : ¬ Cleared b s t := by
  rintro ⟨hs, ht⟩
  rw [hasSticky_of_eq h, hs] at ht
  exact absurd ht (by decide)

theorem not_cleared_of_or {b c : Sticky} {s t : State} (h : t.sticky = s.sticky ||| c.mask) : ¬ Cleared b s t := by
  rintro ⟨hs, ht⟩
  rw [hasSticky_of_or h, hs, Bool.true_or] at ht
  exact absurd ht (by decide)

theorem not_cleared_writeCtrl {b : Sticky} {v : Word} {s : State} : ¬ Cleared b s (writeCtrl v s) := by
  have he := writeCtrl_effect v s
  generalize writeCtrl v s = t at he
  cases he with
  | stayEnabled | disable | enable | setModes => exact not_cleared_of_eq rfl
  | refuseEnable => exact not_cleared_of_or (c := .setupErr) rfl

theorem not_cleared_commandResult {b : Sticky} {c : Command} (hc : c ≠ .reset) {s : State} :
    ¬ Cleared b s (commandResult c s) := by
  cases c with
  | nop | pop | flush | crcClear | crcFeed | glitchClr => exact not_cleared_of_eq rfl
  | crcStop =>
    simp only [commandResult, crcStop]
    split
    · exact not_cleared_of_eq rfl
    · exact not_cleared_of_or (c := .cmdErr) rfl
  | release =>
    simp only [commandResult, release]
    split <;> exact not_cleared_of_eq rfl
  | reset => exact absurd rfl hc
  | reserved => exact not_cleared_of_or (c := .cmdErr) rfl

theorem not_cleared_tick {b : Sticky} {v : Word} {s : State} : ¬ Cleared b s (tick v s) := by
  rintro ⟨hs, ht⟩
  exact absurd ((tick_frame v s).stickyGrows _ hs) (Bool.eq_false_iff.mp ht)

/-- R87: a bit is cleared by RESET or by a write of 1 to it. -/
theorem effect_clears {b : Sticky} {i : Instr} {s t : State} (he : Effect i s t) (h : Cleared b s t) :
    commandOf i = some .reset ∨ ∃ v, i = .wrStatus v ∧ v.getLsbD b.index = true := by
  cases he with
  | read | configure | crcdin | irqen => exact absurd h (not_cleared_of_eq rfl)
  | refuse | refuseRead => exact absurd h (not_cleared_of_or (c := .accErr) rfl)
  | control => exact absurd h not_cleared_writeCtrl
  | clear v hi =>
    obtain ⟨hs, ht⟩ := h
    rw [clearSticky_hasSticky, hs, Bool.true_and, Bool.not_eq_false'] at ht
    exact .inr ⟨v, hi, ht⟩
  | tick => exact absurd h not_cleared_tick
  | command c hi =>
    by_cases hc : c = .reset
    · exact .inl (hc ▸ hi)
    · exact absurd h (not_cleared_commandResult hc)

/-! ### The obligation -/

/-- Settles O56: a bit that becomes set is one of a refused access, a refused enable, a command error or a tick; in a
tick the six bits of the pipeline are set each by its stage (`tick_sets`), and OVF with EVQ full at the end. -/
theorem stickyBitsChangeOnlyByTheirRules : Obligations.StickyBitsChangeOnlyByTheirRules := by
  intro i s t hex
  have he := exec_effect hex
  refine ⟨fun b hs ht => ?_, fun b hs ht => effect_clears he ⟨hs, ht⟩⟩
  rcases effect_sets he ⟨hs, ht⟩ with ⟨rfl, hi⟩ | ⟨rfl, hi⟩ | ⟨rfl, hi⟩ | ⟨hi, hen, v, rfl⟩
  · exact hi
  · exact hi
  · exact hi
  rcases tick_sets ⟨hs, ht⟩ with rfl | ⟨rfl, hlv, hlen⟩ | ⟨rfl, hm, hidle, hfp, hf⟩ |
    ⟨hm, hact, ⟨rfl, hcnt⟩ | ⟨rfl, hf, hn, hne⟩ | ⟨rfl, hf, hn, heq⟩⟩
  · exact ⟨hi, hen, ((tick_overflow v s).flagged ⟨hs, ht⟩).trans (congrArg _ (tick_frame v s).params)⟩
  · exact ⟨hi, hen, hlv, hlen⟩
  · exact ⟨hi, hen, hm, hidle, hfp, hf⟩
  · exact ⟨hi, hen, hm, hact, hcnt⟩
  · exact ⟨hi, hen, ⟨hm, hact, hn, hf⟩, hne⟩
  · exact ⟨hi, hen, ⟨hm, hact, hn, hf⟩, heq⟩

end Sys2Proof.Proofs

/-! ## The window, the access decoder and the request of a step -/

namespace Sys2Proof.Proofs

open Sys2Proof.Machine Sys2Proof.Safety Sys2Proof.Laws

/-! ### The window and the access decoder -/

/-- R60: the window holds no address below BASE or from BASE + 256 on. -/
theorem windowOffset_eq_none_iff (p : Config.Params) (addr : Nat) :
    windowOffset p addr = none ↔ addr < p.base ∨ p.base + 256 ≤ addr := by
  unfold windowOffset Config.windowSize
  split
  · exact iff_of_false (by simp) (by omega)
  · exact iff_of_true rfl (by omega)

theorem windowOffset_base_add (p : Config.Params) (off : BitVec 8) :
    windowOffset p (p.base + off.toNat) = some off := by
  have hlt : off.toNat < 256 := off.isLt
  simp [windowOffset, Config.windowSize, hlt]

/-- R62: `off[1:0] = 0` says that the offset is a multiple of 4. -/
theorem extractLsb'_two_eq_zero_iff (off : BitVec 8) : off.extractLsb' 0 2 = 0#2 ↔ off.toNat % 4 = 0 := by
  simp [← BitVec.toNat_inj]

/-- R80: the key is W above the word index. -/
theorem mmioKey_eq (write : Bool) (off : BitVec 8) :
    mmioKey write off = BitVec.ofNat 7 ((if write then 64 else 0) + off.toNat / 4) := by
  have hidx : off.toNat / 4 < 2 ^ 6 := by have := off.isLt; omega
  apply BitVec.eq_of_toNat_eq
  rw [mmioKey, BitVec.toNat_append, BitVec.extractLsb'_toNat, Nat.shiftRight_eq_div_pow, Nat.mod_eq_of_lt hidx,
    ← Nat.shiftLeft_add_eq_or_of_lt hidx]
  cases write <;> (simp; omega)

theorem decodeAccess_of_legal (write : Bool) (data : Word) {off : BitVec 8} {size : Nat} (hsize : size = 4)
    (halign : off.toNat % 4 = 0) : decodeAccess write off size data = .ok (decodeKey (mmioKey write off) data) := by
  simp [decodeAccess, hsize, (extractLsb'_two_eq_zero_iff off).mpr halign]

theorem decodeAccess_of_illegal (write : Bool) (data : Word) {off : BitVec 8} {size : Nat}
    (h : size ≠ 4 ∨ off.toNat % 4 ≠ 0) : ∃ e, decodeAccess write off size data = .error e := by
  rw [Ne, Ne, ← extractLsb'_two_eq_zero_iff] at h
  unfold decodeAccess
  split
  · exact ⟨_, rfl⟩
  · exact ⟨_, if_pos (h.resolve_left ‹_›)⟩

/-! ### What one event of the host asks -/

theorem accessRequest_eq_outside_iff (a : Access) (s : State) :
    accessRequest a s = .outside ↔ a.addr < s.params.base ∨ s.params.base + 256 ≤ a.addr := by
  rw [← windowOffset_eq_none_iff]
  unfold accessRequest
  split
  · exact iff_of_true rfl ‹_›
  · refine iff_of_false ?_ (by simp [*])
    split <;> simp

theorem accessRequest_of_legal {a : Access} {s : State} {off : BitVec 8} (haddr : a.addr = s.params.base + off.toNat)
    (hsize : a.size = 4) (halign : off.toNat % 4 = 0) :
    accessRequest a s = .run (decodeKey (mmioKey a.write off) a.data) s := by
  simp [accessRequest, haddr, windowOffset_base_add, decodeAccess_of_legal a.write a.data hsize halign]

theorem accessRequest_of_illegal {a : Access} {s : State} {off : BitVec 8} (haddr : a.addr = s.params.base + off.toNat)
    (h : a.size ≠ 4 ∨ off.toNat % 4 ≠ 0) : accessRequest a s = .illegal a.write s := by
  obtain ⟨e, he⟩ := decodeAccess_of_illegal a.write a.data h
  simp [accessRequest, haddr, windowOffset_base_add, he]

theorem nextRequest_of_no_event {s : State} (hp : s.host.pending = []) : nextRequest s = .quiet := by
  simp only [nextRequest, hp]

theorem nextRequest_of_hardReset {s : State} {rest : List HostEvent} (hp : s.host.pending = .hardReset :: rest) :
    nextRequest s = .reset (takeEvent rest s) := by
  simp only [nextRequest, hp]

theorem nextRequest_of_access {s : State} {a : Access} {rest : List HostEvent}
    (hp : s.host.pending = .access a :: rest) : nextRequest s = accessRequest a (takeEvent rest s) := by
  simp only [nextRequest, hp]

/-! ### A step by its request (R64) -/

theorem step_of_quiet {s : State} (h : nextRequest s = .quiet) : step s = .next s := by
  simp only [step, h]

theorem step_of_reset {s u : State} (h : nextRequest s = .reset u) : step s = .next (resetBlock u) := by
  simp only [step, h]

theorem step_of_outside {s : State} (h : nextRequest s = .outside) : step s = .fault .outsideWindow := by
  simp only [step, h]

theorem step_of_illegal {s u : State} {write : Bool} (h : nextRequest s = .illegal write u) :
    step s = .next (illegalAccess write u) := by
  simp only [step, h]

theorem step_of_run {s u : State} {i : Instr} (h : nextRequest s = .run i u) : step s = exec i u := by
  simp only [step, h]

/-! ### The obligations on one access -/

/-- Settles O6: the offset lies in the window, and the access decodes to its key's operation. -/
theorem stepRunsTheDecodedOperation : Obligations.StepRunsTheDecodedOperation := by
  intro s a rest off hp haddr hsize halign
  rw [← mmioKey_eq]
  exact step_of_run ((nextRequest_of_access hp).trans (accessRequest_of_legal haddr hsize halign))

/-- Settles O7: the offset lies in the window, and the access is rejected by the decoder. -/
theorem illegalAccessOnlySetsAccErr : Obligations.IllegalAccessOnlySetsAccErr := by
  intro s a rest off hp haddr hill
  rw [step_of_illegal ((nextRequest_of_access hp).trans (accessRequest_of_illegal haddr hill))]
  cases a.write <;> rfl

/-- Settles O8: the window ends at BASE and BASE + 256. -/
theorem outsideTheWindowStopsAndQuietStays : Obligations.OutsideTheWindowStopsAndQuietStays := by
  intro s
  refine ⟨fun a rest hp hout => ?_, fun hp => step_of_quiet (nextRequest_of_no_event hp)⟩
  exact step_of_outside ((nextRequest_of_access hp).trans ((accessRequest_eq_outside_iff a (takeEvent rest s)).mpr hout))

end Sys2Proof.Proofs

/-! ## The host's side of a step, and the reads -/

namespace Sys2Proof.Proofs

open Sys2Proof.Machine Sys2Proof.Safety Sys2Proof.Laws

/-- What no operation does to the parameters and the host's side: pending events stay, and at most one value is
returned. -/
structure HostFrame (s t : State) : Prop where
  params : t.params = s.params
  pending : t.host.pending = s.host.pending
  returned : ∃ l : List Word, l.length ≤ 1 ∧ t.host.returned = s.host.returned ++ l

theorem HostFrame.of_eq {s t : State} (hp : t.params = s.params) (hh : t.host = s.host) : HostFrame s t :=
  ⟨hp, congrArg _ hh, [], by simp, by simp [hh]⟩

/-- R19: a read returns one value. -/
theorem hostReturn_hostFrame (w : Word) {s t : State} (hp : t.params = s.params) (hh : t.host = s.host) :
    HostFrame s (hostReturn w t) :=
  ⟨hp, by simp [hh], [w], by simp, by simp [hh]⟩

theorem writeCtrl_hostFrame (v : Word) (s : State) : HostFrame s (writeCtrl v s) := by
  have he := writeCtrl_effect v s
  generalize writeCtrl v s = t at he
  cases he <;> exact .of_eq rfl rfl

theorem commandResult_hostFrame (c : Command) (s : State) : HostFrame s (commandResult c s) := by
  cases c with
  | nop | pop | flush | crcClear | crcFeed | glitchClr | reset | reserved => exact .of_eq rfl rfl
  | crcStop =>
    simp only [commandResult, crcStop]
    split <;> exact .of_eq rfl rfl
  | release =>
    simp only [commandResult, release]
    split <;> exact .of_eq rfl rfl

theorem effect_hostFrame {i : Instr} {s t : State} (he : Effect i s t) : HostFrame s t := by
  cases he with
  | refuse | clear | configure | crcdin | irqen => exact .of_eq rfl rfl
  | read w => exact hostReturn_hostFrame w rfl rfl
  | refuseRead => exact hostReturn_hostFrame 0#32 (refuseAccess_params s) (refuseAccess_host s)
  | control v => exact writeCtrl_hostFrame v s
  | tick v => exact .of_eq (tick_frame v s).params (tick_frame v s).host
  | command c => exact commandResult_hostFrame c s

theorem illegalAccess_hostFrame (write : Bool) (s : State) : HostFrame s (illegalAccess write s) := by
  cases write with
  | false => exact hostReturn_hostFrame 0#32 (refuseAccess_params s) (refuseAccess_host s)
  | true => exact .of_eq rfl rfl

/-- R64, R69: a step answers a state in which the oldest event is gone from the host, or the oldest event is an access
outside the window and the step answers none. -/
theorem step_answers (s : State) :
    (∃ t, step s = .next t ∧ HostFrame (takeEvent s.host.pending.tail s) t) ∨
    (∃ a rest, s.host.pending = .access a :: rest ∧ (a.addr < s.params.base ∨ s.params.base + 256 ≤ a.addr) ∧
      step s = .fault .outsideWindow) := by
  rcases hp : s.host.pending with _ | ⟨a | _, rest⟩
  · exact .inl ⟨s, step_of_quiet (nextRequest_of_no_event hp), rfl, hp, [], by simp, by simp⟩
  · have hreq := nextRequest_of_access hp
    rcases accessRequest_cases a (takeEvent rest s) with hr | hr | ⟨i, hr⟩
    · exact .inr ⟨a, rest, rfl, (accessRequest_eq_outside_iff a (takeEvent rest s)).mp hr, step_of_outside (hreq.trans hr)⟩
    · exact .inl ⟨_, step_of_illegal (hreq.trans hr), illegalAccess_hostFrame _ _⟩
    · obtain ⟨t, ht, he⟩ := exec_answers i (takeEvent rest s)
      exact .inl ⟨t, (step_of_run (hreq.trans hr)).trans ht, effect_hostFrame he⟩
  · exact .inl ⟨_, step_of_reset (nextRequest_of_hardReset hp), .of_eq rfl rfl⟩

/-- Settles O54: by `step_answers`, a step answers in one of two ways. -/
theorem eachStepPerformsOneEvent : Obligations.EachStepPerformsOneEvent := by
  intro s
  rcases step_answers s with ⟨u, hu, hf⟩ | ⟨a, rest, hp, hout, hs⟩
  · refine ⟨fun t ht => ?_, fun hnone => absurd hu (hnone u)⟩
    rw [hu] at ht
    cases ht
    exact ⟨hf.params, hf.pending, hf.returned⟩
  · exact ⟨fun t ht => (by simp [hs] at ht), fun _ => ⟨a, rest, hp, hout⟩⟩

/-! ### Reads -/

/-- R65: a read of a defined register returns a word of the block's state alone, whatever the host's side. -/
theorem definedRead_returns {i : Instr} (hi : definedRead i = true) :
    ∃ f : State → Word, (∀ s, Returns i s (f s)) ∧ ∀ s h, f { s with host := h } = f s := by
  cases i with
  | rdId | rdCtrl | rdStatus | rdHthr | rdLthr | rdNbp | rdSpo | rdSjw | rdMgw | rdCrc | rdRxcrc | rdCrcdin | rdCmd
  | rdEvtHead | rdEvtAux | rdEvtTlo | rdEvtThi | rdEvtCnt | rdTimeLo | rdTimeHi | rdGlitchCnt | rdIrqen | rdSample
  | rdCrstate | rdDsstate | rdIdlecnt => exact ⟨fun _ => _, fun _ => rfl, fun _ _ => rfl⟩
  | _ => cases hi

/-- Settles O15: a read changes the host's side only, and no read looks at that. -/
theorem readsDoNotDisturbReads : Obligations.ReadsDoNotDisturbReads := by
  intro i j s hi hj
  obtain ⟨f, hf, -⟩ := definedRead_returns hi
  obtain ⟨g, hg, hhost⟩ := definedRead_returns hj
  refine ⟨f s, g s, hf s, hg s, fun t ht => ?_⟩
  rw [hf s] at ht
  cases ht
  rw [← hhost s]
  exact hg _

end Sys2Proof.Proofs

/-! ## Decoding and encoding -/

namespace Sys2Proof.Proofs

open Sys2Proof.Machine Sys2Proof.Safety Sys2Proof.Laws

/-! ### The word index and the reserved offsets -/

theorem wordOffset_toNat (idx : BitVec 6) : (wordOffset idx).toNat = 4 * idx.toNat := by
  rw [wordOffset, BitVec.toNat_append, ← Nat.shiftLeft_add_eq_or_of_lt (by simp)]
  simp [Nat.shiftLeft_eq, Nat.mul_comm]

theorem wordOffset_extractLsb' {off : BitVec 8} (h : off.toNat % 4 = 0) : wordOffset (off.extractLsb' 2 6) = off := by
  rw [wordOffset, ← (extractLsb'_two_eq_zero_iff off).mpr h,
    BitVec.extractLsb'_append_extractLsb'_eq_extractLsb' (Nat.zero_add 2).symm, BitVec.extractLsb'_eq_self]

/-- R62, R83: a reserved offset is that of a word index in the range. -/
theorem reservedOffset_iff {lo hi : Nat} {off : BitVec 8} :
    reservedOffset lo hi off = true ↔ ∃ idx, off = wordOffset idx ∧ lo ≤ 4 * idx.toNat ∧ 4 * idx.toNat ≤ hi := by
  simp only [reservedOffset, Bool.and_eq_true, decide_eq_true_eq]
  constructor
  · rintro ⟨⟨hlo, hhi⟩, halign⟩
    have hoff := wordOffset_extractLsb' halign
    refine ⟨_, hoff.symm, ?_⟩
    rw [← wordOffset_toNat, hoff]
    exact ⟨hlo, hhi⟩
  · rintro ⟨idx, rfl, hlo, hhi⟩
    rw [wordOffset_toNat]
    omega

/-- R82: every key is W above a word index. -/
theorem key_eq_mmioKey (key : BitVec 7) : key = mmioKey (key.getLsbD 6) (wordOffset (key.extractLsb' 0 6)) := by
  revert key; decide

/-- R82: the key of a word offset selects by W and the word index. -/
theorem decodeKey_mmioKey (write : Bool) (idx : BitVec 6) (v : Word) :
    decodeKey (mmioKey write (wordOffset idx)) v = if write then decodeWrite idx v else decodeRead idx := by
  have hidx : (wordOffset idx).extractLsb' 2 6 = idx := BitVec.extractLsb'_append_eq_left
  have hwrite : (mmioKey write (wordOffset idx)).getLsbD 6 = write := by
    rw [mmioKey, BitVec.getLsbD_append]; cases write <;> rfl
  rw [decodeKey, hwrite, mmioKey, hidx, BitVec.extractLsb'_append_eq_right]

/-! ### What a word index selects -/

section
variable {idx : BitVec 6} (v : Word)

theorem wordIndex_selects_reserved68 (hlo : 0x68 ≤ 4 * idx.toNat) (hhi : 4 * idx.toNat ≤ 0x6C) :
    decodeRead idx = .rdReserved68 (wordOffset idx) ∧ decodeWrite idx v = .wrReserved68 (wordOffset idx) v := by
  obtain h | h : idx.toNat = 26 ∨ idx.toNat = 27 := by omega
  all_goals simp only [decodeRead, decodeWrite, h, and_self]

theorem wordIndex_selects_reserved70 (hlo : 0x70 ≤ 4 * idx.toNat) (hhi : 4 * idx.toNat ≤ 0x7C) :
    decodeRead idx = .rdReserved70 (wordOffset idx) ∧ decodeWrite idx v = .wrReserved70 (wordOffset idx) v := by
  obtain h | h | h | h : idx.toNat = 28 ∨ idx.toNat = 29 ∨ idx.toNat = 30 ∨ idx.toNat = 31 := by omega
  all_goals simp only [decodeRead, decodeWrite, h, and_self]

theorem wordIndex_selects_reserved80 (hlo : 0x80 ≤ 4 * idx.toNat) :
    decodeRead idx = .rdReserved80 (wordOffset idx) ∧ decodeWrite idx v = .wrReserved80 (wordOffset idx) v := by
  obtain ⟨n, hn⟩ : ∃ n, idx.toNat = n + 32 := Nat.exists_eq_add_of_le' (by omega)
  simp only [decodeRead, decodeWrite, hn, and_self]

end

/-- R83: a reserved offset is decoded to its own row, given that the word indices of the row's range are. -/
theorem decodeKey_reservedKey {write : Bool} {lo hi : Nat} {off : BitVec 8} {v : Word} (i : BitVec 8 → Instr)
    (hoff : reservedOffset lo hi off = true)
    (h : ∀ idx : BitVec 6, lo ≤ 4 * idx.toNat → 4 * idx.toNat ≤ hi →
      (if write then decodeWrite idx v else decodeRead idx) = i (wordOffset idx)) :
    decodeKey (reservedKey write off) v = i off := by
  obtain ⟨idx, rfl, hlo, hhi⟩ := reservedOffset_iff.mp hoff
  exact (decodeKey_mmioKey write idx v).trans (h idx hlo hhi)

/-- R83, write side: the named rows and the short reserved ranges index by index, the long range by its bounds. -/
theorem decodeWrite_wf_encode (idx : BitVec 6) (v : Word) :
    (decodeWrite idx v).wf = true ∧ encode (decodeWrite idx v) = .mmio (mmioKey true (wordOffset idx)) v := by
  rcases Nat.lt_or_ge idx.toNat 32 with h | h
  · generalize hn : idx.toNat = n at h
    obtain rfl : idx = BitVec.ofNat 6 n := by simp [← hn]
    clear hn
    interval_cases n <;> exact ⟨rfl, rfl⟩
  · rw [(wordIndex_selects_reserved80 v (by omega)).2]
    exact ⟨reservedOffset_iff.mpr ⟨idx, rfl, by omega, by have := idx.isLt; omega⟩, rfl⟩

/-- R83, read side: the 64 word indices. -/
theorem decodeRead_wf_encode (idx : BitVec 6) :
    (decodeRead idx).wf = true ∧ encode (decodeRead idx) = .mmio (mmioKey false (wordOffset idx)) 0#32 := by
  revert idx; decide

/-! ### CMD words -/

/-- R99: a CMD word is its fields [31:13], NM1 and OP. -/
theorem word_fields (w : Word) : w.extractLsb' 13 19 ++ w.extractLsb' 8 5 ++ w.extractLsb' 0 8 = w := by
  rw [BitVec.extractLsb'_append_extractLsb'_eq_extractLsb' (by rfl),
    BitVec.extractLsb'_append_extractLsb'_eq_extractLsb' (by rfl), BitVec.extractLsb'_eq_self]

/-- R99, R100: the CRC_FEED word of NM1; the encoder's own, as `encode_cmdCrcFeed` says. -/
def feedWord (nm1 : BitVec 5) : Word := 0#19 ++ nm1 ++ 0x04#8

theorem encode_cmdCrcFeed (nm1 : BitVec 5) : encode (.cmdCrcFeed nm1) = .cmdWord (feedWord nm1) := rfl

theorem eq_feedWord_of_fields {w : Word} (hhi : w.extractLsb' 13 19 = 0#19) (hop : w.extractLsb' 0 8 = 0x04#8) :
    w = feedWord (w.extractLsb' 8 5) := by
  rw [feedWord, ← hhi, ← hop, word_fields]

/-- R99: the row of CRC_FEED holds the CRC_FEED words. -/
theorem and_feedMask_eq_iff {w : Word} : w &&& 0xFFFFE0FF#32 = 0x00000004#32 ↔ ∃ nm1, w = feedWord nm1 := by
  constructor
  · intro h
    have hfield (k n : Nat) (hmask : (0xFFFFE0FF#32).extractLsb' k n = BitVec.allOnes n) :
        w.extractLsb' k n = (0x00000004#32).extractLsb' k n := by
      rw [← h, BitVec.extractLsb'_and, hmask, BitVec.and_allOnes]
    exact ⟨_, eq_feedWord_of_fields (hfield 13 19 rfl) (hfield 0 8 rfl)⟩
  · rintro ⟨nm1, rfl⟩
    revert nm1; decide

/-- R99, R100: the defined CMD words are the opcodes up to 8 and the CRC_FEED words. -/
theorem cmdWordDefined_iff {w : Word} :
    cmdWordDefined w = true ↔ (∃ n < 9, w = BitVec.ofNat 32 n) ∨ ∃ nm1, w = feedWord nm1 := by
  rw [cmdWordDefined, Bool.or_eq_true, decide_eq_true_eq, beq_iff_eq, and_feedMask_eq_iff]
  refine or_congr_left ⟨fun h => ⟨w.toNat, by omega, by simp⟩, ?_⟩
  rintro ⟨n, hn, rfl⟩
  rw [BitVec.toNat_ofNat]
  omega

theorem decodeCommand_feedWord (nm1 : BitVec 5) : decodeCommand (feedWord nm1) = .crcFeed nm1 := by
  revert nm1; decide

/-- R99: the must-be-zero bits above NM1. -/
theorem extractLsb'_hi_of_shiftRight_eq_zero {w : Word} (h : w >>> 13 = 0#32) : w.extractLsb' 13 19 = 0#19 := by
  rw [← BitVec.toNat_inj, BitVec.toNat_ushiftRight] at h
  rw [← BitVec.toNat_inj, BitVec.extractLsb'_toNat, h]
  rfl

/-- R99: a word whose bits above the opcode are 0 is its opcode. -/
theorem eq_opcode_of_shiftRight_eq_zero {w : Word} (h : w >>> 8 = 0#32) :
    w = BitVec.ofNat 32 (w.extractLsb' 0 8).toNat := by
  have hlt : w.toNat < 256 := by simpa [← BitVec.toNat_inj, Nat.shiftRight_eq_div_pow] using h
  simp [Nat.mod_eq_of_lt hlt]

/-- R100: a CMD word that no command row has is reserved: its must-be-zero bits are not 0, or its opcode is above 8. -/
theorem decodeCommand_of_not_defined {w : Word} (h : cmdWordDefined w = false) : decodeCommand w = .reserved w := by
  rw [← Bool.not_eq_true, cmdWordDefined_iff, not_or] at h
  obtain ⟨hsmall, hfeed⟩ := h
  unfold decodeCommand
  refine ite_eq_left_iff.mpr fun hzero => ?_
  rw [not_or, not_and_not_right, not_and_not_right] at hzero
  obtain ⟨hzeroFeed, hzeroOther⟩ := hzero
  have hop : w.extractLsb' 0 8 ≠ 0x04#8 := fun hop =>
    hfeed ⟨_, eq_feedWord_of_fields (extractLsb'_hi_of_shiftRight_eq_zero (hzeroFeed hop)) hop⟩
  have hw := eq_opcode_of_shiftRight_eq_zero (hzeroOther hop)
  have hlarge : 9 ≤ (w.extractLsb' 0 8).toNat := not_lt.mp fun hlt => hsmall ⟨_, hlt, hw⟩
  obtain ⟨n, hn⟩ := Nat.exists_eq_add_of_le' hlarge
  simp only [hn]

/-- R99, R100: opcode by opcode, for a CRC_FEED word, and for a word that no command row has. -/
theorem decodeCmd_wf_encode (w : Word) : (decodeCmd w).wf = true ∧ encode (decodeCmd w) = .cmdWord w := by
  cases h : cmdWordDefined w with
  | false =>
    rw [decodeCmd, decodeCommand_of_not_defined h]
    exact ⟨by rw [Command.toInstr, Instr.wf, h]; rfl, rfl⟩
  | true =>
    obtain ⟨n, hn, rfl⟩ | ⟨nm1, rfl⟩ := cmdWordDefined_iff.mp h
    · revert n; decide
    · rw [decodeCmd, decodeCommand_feedWord]
      exact ⟨rfl, encode_cmdCrcFeed nm1⟩

/-! ### The round trips -/

/-- Settles O3, constructor by constructor: a reserved offset by its range, CRC_FEED and a reserved CMD word by what the
second level answers, and the encoding of every other instruction is fixed but for the data word. -/
theorem decodeInvertsEncode : Obligations.DecodeInvertsEncode := by
  intro i hwf
  cases i with
  | rdReserved68 off =>
    exact decodeKey_reservedKey .rdReserved68 hwf fun _ hlo hhi => (wordIndex_selects_reserved68 0#32 hlo hhi).1
  | wrReserved68 off v =>
    exact decodeKey_reservedKey (.wrReserved68 · v) hwf fun _ hlo hhi => (wordIndex_selects_reserved68 v hlo hhi).2
  | rdReserved70 off =>
    exact decodeKey_reservedKey .rdReserved70 hwf fun _ hlo hhi => (wordIndex_selects_reserved70 0#32 hlo hhi).1
  | wrReserved70 off v =>
    exact decodeKey_reservedKey (.wrReserved70 · v) hwf fun _ hlo hhi => (wordIndex_selects_reserved70 v hlo hhi).2
  | rdReserved80 off =>
    exact decodeKey_reservedKey .rdReserved80 hwf fun _ hlo _ => (wordIndex_selects_reserved80 0#32 hlo).1
  | wrReserved80 off v =>
    exact decodeKey_reservedKey (.wrReserved80 · v) hwf fun _ hlo _ => (wordIndex_selects_reserved80 v hlo).2
  | cmdCrcFeed nm1 => exact congrArg Command.toInstr (decodeCommand_feedWord nm1)
  | cmdReserved v => exact congrArg Command.toInstr (decodeCommand_of_not_defined (by simpa [Instr.wf] using hwf))
  | _ => rfl

/-- R82, R83: both sides of the key table. -/
theorem decodeKey_wf_encode (key : BitVec 7) (v : Word) :
    (decodeKey key v).wf = true ∧ encode (decodeKey key v) = .mmio key (if key.getLsbD 6 then v else 0#32) := by
  have hkey := key_eq_mmioKey key
  unfold decodeKey
  cases hw : key.getLsbD 6 with
  | false => rw [hw] at hkey; simpa [← hkey] using decodeRead_wf_encode (key.extractLsb' 0 6)
  | true => rw [hw] at hkey; simpa [← hkey] using decodeWrite_wf_encode (key.extractLsb' 0 6) v

/-- Settles O4, by the two decode levels. -/
theorem encodeInvertsDecode : Obligations.EncodeInvertsDecode :=
  ⟨decodeKey_wf_encode, decodeCmd_wf_encode⟩

/-! ### The rows -/

/-- R83, R100: the row of a well-formed instruction covers its encoding, for every constructor. -/
theorem row_covers_encode (i : Instr) : RowMatch.Statement i := by
  cases i with
  | rdReserved68 off => exact RowMatch.rdReserved68 off
  | rdReserved70 off => exact RowMatch.rdReserved70 off
  | rdReserved80 off => exact RowMatch.rdReserved80 off
  | wrReserved68 off v => exact RowMatch.wrReserved68 off v
  | wrReserved70 off v => exact RowMatch.wrReserved70 off v
  | wrReserved80 off v => exact RowMatch.wrReserved80 off v
  | cmdCrcFeed nm1 => exact RowMatch.cmdCrcFeed nm1
  | cmdReserved v => exact RowMatch.cmdReserved v
  | _ => exact fun _ => rfl

/-- R82: a key row looks at the key alone. -/
theorem covers_mmio (r : RowPattern) (key : BitVec 7) (v : Word) :
    r.covers (.mmio key v) = r.covers (.mmio key 0#32) := by
  cases r <;> rfl

/-- R83: an instruction that is encoded by a key is listed in the key table. -/
theorem row_mem_keyRows {i : Instr} {key : BitVec 7} {v : Word} (h : encode i = .mmio key v) : i.row ∈ keyRows := by
  cases i with
  | cmdNop | cmdPop | cmdFlush | cmdCrcClear | cmdCrcFeed | cmdCrcStop | cmdRelease | cmdGlitchClr | cmdReset
  | cmdReserved => cases h
  | _ => simp only [Instr.row]; decide

/-- The key rows of R83 do not overlap and leave no key out. -/
theorem keyRows_cover_once : ∀ key : BitVec 7, (keyRows.filter (fun r => r.covers (.mmio key 0#32))).length = 1 := by
  decide

/-- Settles O1: the decoded operation is well formed and encodes to the key, so that its row covers the key. -/
theorem everyKeySelectsExactlyOneRow : Obligations.EveryKeySelectsExactlyOneRow := by
  intro key v
  obtain ⟨hwf, henc⟩ := decodeKey_wf_encode key v
  refine ⟨?_, row_mem_keyRows henc, ?_⟩
  · simp only [covers_mmio _ key v]
    exact keyRows_cover_once key
  · have hcov := row_covers_encode _ hwf
    rwa [henc, covers_mmio, ← covers_mmio _ key v] at hcov

/-- R100: the row of CRC_FEED leaves NM1 open, each other row holds one word, an opcode up to 8. -/
theorem commandRows_shape : ∀ r ∈ commandRows,
    r = .cmd 0x00000004#32 0xFFFFE0FF#32 ∨ ∃ n < 9, r = .cmd (BitVec.ofNat 32 n) (BitVec.allOnes 32) := by
  decide

/-- R100: a command row holds defined words only. -/
theorem cmdWordDefined_of_covers {w : Word} {r : RowPattern} (hr : r ∈ commandRows)
    (hc : r.covers (.cmdWord w) = true) : cmdWordDefined w = true := by
  obtain rfl | ⟨n, hn, rfl⟩ := commandRows_shape r hr
  · exact cmdWordDefined_iff.mpr (.inr (and_feedMask_eq_iff.mp (beq_iff_eq.mp hc)))
  · exact cmdWordDefined_iff.mpr (.inl ⟨n, hn, BitVec.and_allOnes.symm.trans (beq_iff_eq.mp hc)⟩)

/-- R100: the command rows do not overlap. -/
theorem commandRows_cover_once {w : Word} (h : cmdWordDefined w = true) :
    (commandRows.filter (fun r => r.covers (.cmdWord w))).length = 1 := by
  rw [cmdWordDefined_iff] at h
  obtain ⟨n, hn, rfl⟩ | ⟨nm1, rfl⟩ := h
  · revert n; decide
  · revert nm1; decide

/-- Settles O2: the words the command rows cover are the defined ones, and the decoded command is well formed and encodes
to the word. -/
theorem commandWordsSelectOneCommandOrNone : Obligations.CommandWordsSelectOneCommandOrNone := by
  intro w
  obtain ⟨hwf, henc⟩ := decodeCmd_wf_encode w
  refine ⟨?_, ⟨fun h => congrArg Command.toInstr (decodeCommand_of_not_defined h), fun h => ?_⟩, ?_⟩
  · split
    · exact commandRows_cover_once ‹_›
    · refine List.length_eq_zero_iff.mpr (List.filter_eq_nil_iff.mpr fun r hr hc => ?_)
      exact absurd (cmdWordDefined_of_covers hr hc) ‹_›
  · simpa [h, Instr.wf] using hwf
  · have hcov := row_covers_encode _ hwf
    rwa [henc] at hcov

/-- Settles O5, by running the decoder on the fourteen words. -/
theorem writtenOutWordsDecode : Obligations.WrittenOutWordsDecode := by
  unfold Obligations.WrittenOutWordsDecode
  decide

/-! ### The host assembly -/

theorem sampleH_append (b a : BitVec 16) : sampleH (b ++ a) = a.toInt := by
  rw [sampleH, BitVec.extractLsb'_append_eq_right]

theorem sampleL_append (b a : BitVec 16) : sampleL (b ++ a) = b.toInt := by
  rw [sampleL, BitVec.extractLsb'_append_eq_left]

/-- R111, R98: an operand in range is the value its 16 bits read as. -/
theorem asmSample_of_mem {x : Int} (hlo : -32768 ≤ x) (hhi : x ≤ 32767) :
    ∃ a, asmSample x = some a ∧ a.toInt = x :=
  ⟨_, if_pos ⟨hlo, hhi⟩, BitVec.toInt_ofInt_eq_self (by decide) (by omega) (by omega)⟩

theorem asmSample_eq_none {x : Int} (h : ¬ (-32768 ≤ x ∧ x ≤ 32767)) : asmSample x = none := if_neg h

theorem sampleWordOf_eq_none {h l : Int} (hout : ¬ (-32768 ≤ h ∧ h ≤ 32767 ∧ -32768 ≤ l ∧ l ≤ 32767)) :
    sampleWordOf h l = none := by
  by_cases hh : -32768 ≤ h ∧ h ≤ 32767
  · obtain ⟨a, ha, -⟩ := asmSample_of_mem hh.1 hh.2
    rw [sampleWordOf, ha, asmSample_eq_none (x := l) (by omega)]
  · rw [sampleWordOf, asmSample_eq_none hh]

/-- R99, R111: the word `cmd CRC_FEED, n` writes is the CRC_FEED word of NM1 = n - 1. -/
theorem crcFeedOperand_eq_feedWord :
    ∀ m < 32, 0x04#32 ||| (BitVec.ofNat 32 m <<< 8) = feedWord (BitVec.ofNat 5 m) := by
  decide

/-- Settles O60: the lanes of SAMPLE read back as the operands, and the CMD word is the CRC_FEED word of n - 1. -/
theorem assemblyExpandsExactly : Obligations.AssemblyExpandsExactly := by
  refine ⟨fun base h l hh hh' hl hl' => ?_, fun base n hlo hhi => ?_, fun base h l hout => ?_,
    fun base n hout => if_neg hout⟩
  · obtain ⟨a, ha, rfl⟩ := asmSample_of_mem hh hh'
    obtain ⟨b, hb, rfl⟩ := asmSample_of_mem hl hl'
    refine ⟨b ++ a, ?_, sampleH_append b a, sampleL_append b a⟩
    rw [HostLine.expand, sampleWordOf, ha, hb]
    rfl
  · refine ⟨feedWord (BitVec.ofNat 5 (n - 1)), ?_, decodeCommand_feedWord _⟩
    rw [HostLine.expand, if_pos ⟨hlo, hhi⟩, crcFeedOperand_eq_feedWord _ (by omega)]
    rfl
  · rw [HostLine.expand, sampleWordOf_eq_none hout, Option.map_none]

end Sys2Proof.Proofs

/-! ## The comparator -/

namespace Sys2Proof.Proofs

open Sys2Proof.Machine Sys2Proof.Laws

/-! ### The value V -/

/-- R98: the high lane is the word modulo 2^16. -/
theorem sampleH_eq_toInt_ofNat (v : Word) : sampleH v = (BitVec.ofNat 16 v.toNat).toInt := rfl

/-- R98: the low lane is the word divided by 2^16. -/
theorem sampleL_eq_toInt_ofNat (v : Word) : sampleL v = (BitVec.ofNat 16 (v.toNat / 2 ^ 16)).toInt := by
  rw [← Nat.shiftRight_eq_div_pow]
  rfl

/-- R98: the range of a lane. -/
theorem lane_bounds (a : BitVec 16) : -32768 ≤ a.toInt ∧ a.toInt ≤ 32767 :=
  ⟨BitVec.le_toInt a, Int.le_of_lt_add_one BitVec.toInt_lt⟩

/-- R120: INV is a factor of -1. -/
theorem sampleValue_eq_sign_mul (c : Ctrl) (v : Word) :
    sampleValue c v = (if c.inv then -1 else 1) * (if c.single then sampleH v else sampleH v - sampleL v) := by
  unfold sampleValue
  cases c.inv with
  | false => exact (one_mul _).symm
  | true => exact (neg_one_mul _).symm

/-- R120: neither a lane nor a difference of two lanes leaves the range, nor does its negation. -/
theorem sampleValue_bounds (c : Ctrl) (v : Word) : -65535 ≤ sampleValue c v ∧ sampleValue c v ≤ 65535 := by
  have hH : -32768 ≤ sampleH v ∧ sampleH v ≤ 32767 := lane_bounds _
  have hL : -32768 ≤ sampleL v ∧ sampleL v ≤ 32767 := lane_bounds _
  unfold sampleValue
  dsimp only
  split_ifs <;> omega

/-! ### The record and the step -/

/-- R105: the level's bit is the data's value. -/
theorem levelData_eq_ofNat (l : Level) : levelData l = BitVec.ofNat 28 l.bit.toNat := by
  cases l <;> rfl

/-- Settles O31: V by its lanes and its sign; the step decides the level and emits by definition. -/
theorem comparatorDecides : Obligations.ComparatorDecides := by
  intro s n v h l x new decided
  have hx : sampleValue s.ctrl v = x := by
    rw [sampleValue_eq_sign_mul, sampleH_eq_toInt_ofNat, sampleL_eq_toInt_ofNat]
  have hnew : decideLevel s.cfg (sampleValue s.ctrl v) s.cmp.lvl = new := by
    rw [hx, decideLevel]
  obtain ⟨hlo, hhi⟩ := sampleValue_bounds s.ctrl v
  refine ⟨hx, hx ▸ hlo, hx ▸ hhi, ?_⟩
  rw [comparatorStep, hnew, levelData_eq_ofNat]

/-! ### Hysteresis -/

/-- R121: only a value above HTHR leaves R. -/
theorem decideLevel_keeps_recessive {c : CfgRegs} {x : Int} (h : x ≤ c.hthr.toInt) :
    decideLevel c x .recessive = .recessive := by
  rw [decideLevel, if_neg (not_lt.mpr h), ite_self]

/-- R121: only a value below LTHR leaves D. -/
theorem decideLevel_keeps_dominant {c : CfgRegs} {x : Int} (h : c.lthr.toInt ≤ x) :
    decideLevel c x .dominant = .dominant := by
  rw [decideLevel, if_neg (not_lt.mpr h), ite_self]

/-- R121, R123: samples that each keep the level `l` keep it together, since no step changes CTRL or the thresholds. -/
theorem runComparator_keeps_level {l : Level} (vs : List Word) (n : Time) (s : State) (hl : s.cmp.lvl = l)
    (hkeep : ∀ v ∈ vs, decideLevel s.cfg (sampleValue s.ctrl v) l = l) : (runComparator n vs s).cmp.lvl = l := by
  induction vs generalizing n s with
  | nil => exact hl
  | cons v vs ih =>
    obtain ⟨hv, hvs⟩ := List.forall_mem_cons.mp hkeep
    refine ih (n + 1#64) (comparatorStep n v s) ?_ ?_
    · rw [comparatorStep_lvl, hl, hv]
    · rwa [comparatorStep_cfg, (comparatorStep_frame n v s).ctrl]

/-- Settles O32: each sample of the run keeps the level. -/
theorem hysteresisHolds : Obligations.HysteresisHolds := fun vs n s =>
  ⟨fun hl h => runComparator_keeps_level vs n s hl fun v hv => decideLevel_keeps_recessive (h v hv),
    fun hl h => runComparator_keeps_level vs n s hl fun v hv => decideLevel_keeps_dominant (h v hv)⟩

end Sys2Proof.Proofs

/-! ## Glitch detection and the glitch filter -/

namespace Sys2Proof.Proofs

open Sys2Proof.Machine Sys2Proof.Laws

/-! ### Glitch detection -/

/-- `emit` does not look at the glitch filter. -/
theorem emit_with_gf (ty : RecordType) (data : BitVec 28) (aux : Word) (n : Time) (s : State) (g : GlitchFilter) :
    { emit ty data aux n s with gf := g } = emit ty data aux n { s with gf := g } := by
  unfold emit
  dsimp only
  split <;> rfl

theorem reportGlitch_of_long {s : State} (h : s.window ≤ s.gf.runlen.toNat) : reportGlitch s = s :=
  if_neg (Nat.not_lt.mpr h)

theorem reportGlitch_of_short {s : State} (h : s.gf.runlen.toNat < s.window) :
    reportGlitch s = emit .glitch (levelData s.gf.runlv) (s.gf.runlen.setWidth 32) s.gf.runstart
      { s with glitchCnt := sat 32 (s.glitchCnt.toNat + 1), sticky := s.sticky ||| Sticky.glitch.mask } :=
  if_pos h

theorem glitchDetect_of_eq (n : Time) {raw : Level} {s : State} (h : raw = s.gf.runlv) :
    glitchDetect n raw s = { s with gf := { s.gf with runlen := sat 16 (s.gf.runlen.toNat + 1) } } := if_pos h

theorem glitchDetect_of_ne (n : Time) {raw : Level} {s : State} (h : raw ≠ s.gf.runlv) :
    glitchDetect n raw s = { reportGlitch s with gf := { s.gf with runlv := raw, runlen := 1#16, runstart := n } } := by
  rw [← reportGlitch_gf s]
  exact if_neg h

/-- Settles O33: the run goes on, or it ends, and `reportGlitch` compares its length with W. -/
theorem glitchesAreCounted : Obligations.GlitchesAreCounted := by
  intro s n raw
  refine ⟨fun h => glitchDetect_of_eq n h, fun hne hlong => ?_, fun hne hshort => ?_⟩
  · rw [glitchDetect_of_ne n hne, reportGlitch_of_long hlong]
  · rw [glitchDetect_of_ne n hne, reportGlitch_of_short hshort, emit_with_gf, levelData_eq_ofNat, BitVec.ofNat_toNat]
    rfl

/-! ### The filtered sequence -/

/-- R141: `constantFrom` says that the W levels from index `t` on are all there and equal. -/
theorem constantFrom_iff (raw : List Level) (w t : Nat) : constantFrom raw w t = true ↔
    t + w ≤ raw.length ∧ ∀ i < w, raw[t + i]? = raw[t]? := by
  simp only [constantFrom, Bool.and_eq_true, decide_eq_true_eq, List.all_eq_true, and_congr_right_iff]
  intro hle
  have hlen : ((raw.drop t).take w).length = w := by rw [List.length_take, List.length_drop]; omega
  have hget : ∀ i (hi : i < ((raw.drop t).take w).length), raw[t + i]? = some ((raw.drop t).take w)[i] := fun i hi => by
    rw [List.getElem_take, List.getElem_drop]
    exact List.getElem?_eq_getElem _
  constructor
  · intro h i hi
    rw [hget i (hlen.symm ▸ hi)]
    exact (h _ (List.getElem_mem _)).symm
  · intro h x hx
    obtain ⟨i, hi, rfl⟩ := List.mem_iff_getElem.mp hx
    rw [← h i (hlen ▸ hi), hget i hi]

theorem filteredLevel_of_constant {raw : List Level} {w t : Nat} {x : Level} (hc : constantFrom raw w t = true)
    (hx : raw[t]? = some x) : filteredLevel raw w (t + 1) = x := by
  rw [filteredLevel, if_pos hc, hx, Option.getD_some]

theorem filteredLevel_of_not_constant {raw : List Level} {w t : Nat} (hc : ¬ constantFrom raw w t = true) :
    filteredLevel raw w (t + 1) = filteredLevel raw w t := if_neg hc

/-! ### Runs of the raw sequence -/

section
variable {a b : List Level} {x : Level} {k j w : Nat}

theorem getElem?_of_run (hj : j < k) : (a ++ List.replicate k x ++ b)[a.length + j]? = some x := by
  rw [List.append_assoc, List.getElem?_append_right (by omega), List.getElem?_append_left (by simpa using hj)]
  simp [hj]

/-- The level after a run does not continue it. -/
theorem getElem?_after_run (hb : b.head? ≠ some x) : (a ++ List.replicate k x ++ b)[a.length + k]? ≠ some x := by
  rw [List.getElem?_append_right (by simp)]
  simpa [List.head?_eq_getElem?] using hb

/-- The first window of a run of W levels or more is constant. -/
theorem constantFrom_of_long_run (hwk : w ≤ k) (hk : 0 < k) :
    constantFrom (a ++ List.replicate k x ++ b) w a.length = true := by
  refine (constantFrom_iff _ _ _).mpr ⟨by simp only [List.length_append, List.length_replicate]; omega, fun i hi => ?_⟩
  rw [getElem?_of_run (hi.trans_le hwk)]
  exact (getElem?_of_run hk).symm

/-- No window that begins in a run shorter than W is constant: it holds the level after the run, or ends past the
sequence. -/
theorem not_constantFrom_of_short_run (hb : b.head? ≠ some x) (hkw : k < w) (hj : j < k) :
    ¬ constantFrom (a ++ List.replicate k x ++ b) w (a.length + j) = true := by
  intro hc
  have hend := ((constantFrom_iff _ _ _).mp hc).2 (k - j) (by omega)
  rw [getElem?_of_run hj, Nat.add_assoc, Nat.add_sub_cancel' hj.le] at hend
  exact getElem?_after_run hb hend

/-- R142: the first window of a long run is constant, and behind it a window is constant or the level is kept. -/
theorem filteredLevel_of_long_run (hwk : w ≤ k) (hj : j < k) :
    filteredLevel (a ++ List.replicate k x ++ b) w (a.length + j + 1) = x := by
  induction j with
  | zero => exact filteredLevel_of_constant (constantFrom_of_long_run hwk hj) (getElem?_of_run hj)
  | succ j ih =>
    by_cases hc : constantFrom (a ++ List.replicate k x ++ b) w (a.length + (j + 1)) = true
    · exact filteredLevel_of_constant hc (getElem?_of_run hj)
    · exact (filteredLevel_of_not_constant hc).trans (ih (by omega))

/-- R142: over a short run the level is kept from index to index. -/
theorem filteredLevel_of_short_run (hb : b.head? ≠ some x) (hkw : k < w) (hj : j < k) :
    filteredLevel (a ++ List.replicate k x ++ b) w (a.length + j + 1) =
      filteredLevel (a ++ List.replicate k x ++ b) w a.length := by
  have hkeep := filteredLevel_of_not_constant (not_constantFrom_of_short_run (a := a) hb hkw hj)
  induction j with
  | zero => exact hkeep
  | succ j ih =>
    exact hkeep.trans (ih (by omega) (filteredLevel_of_not_constant (not_constantFrom_of_short_run hb hkw (by omega))))

end

/-- Settles O35, by the windows that begin in the run. -/
theorem filterKeepsLongRunsAndDropsShortOnes : Obligations.FilterKeepsLongRunsAndDropsShortOnes :=
  fun _ _ _ _ _ _ _ hb hj =>
    ⟨fun hwk => filteredLevel_of_long_run hwk hj, fun hkw => filteredLevel_of_short_run hb hkw hj⟩

/-! ### The filter decides the filtered sequence -/

/-- R141: the decision on a queue, by its oldest level. -/
theorem filterDecision_eq_head {q : List Level} (hq : q ≠ []) (held : Level) :
    filterDecision q held = if ∀ x ∈ q, x = q.head hq then q.head hq else held := by
  cases q with
  | nil => exact absurd rfl hq
  | cons a r => simp [filterDecision]

theorem glitchFilter_of_full (n : Time) {raw : Level} {s : State} (h : (s.gf.rq ++ [raw]).length = s.window) :
    glitchFilter n raw s =
      clockRecoveryStep (n - BitVec.ofNat 64 (s.window - 1)) (filterDecision (s.gf.rq ++ [raw]) s.gf.flt) s.gf.flt
        { s with gf := { s.gf with rq := (s.gf.rq ++ [raw]).tail, flt := filterDecision (s.gf.rq ++ [raw]) s.gf.flt } } :=
  if_pos h

theorem glitchFilter_of_not_full (n : Time) {raw : Level} {s : State} (h : (s.gf.rq ++ [raw]).length ≠ s.window) :
    glitchFilter n raw s = { s with gf := { s.gf with rq := s.gf.rq ++ [raw] } } := if_neg h

/-- R141: a full queue is the window of the index it decides. -/
theorem filterDecision_drop {raw : List Level} {w t : Nat} (hw : 1 ≤ w) (hlen : raw.length = t + w) :
    filterDecision (raw.drop t) (filteredLevel raw w t) = filteredLevel raw w (t + 1) := by
  have ht : t < raw.length := by omega
  have hq : raw.drop t ≠ [] := by simp [ht]
  have htake : (raw.drop t).take w = raw.drop t := List.take_of_length_le (by rw [List.length_drop]; omega)
  rw [filterDecision_eq_head hq, filteredLevel]
  simp [constantFrom, htake, hlen, List.getElem?_eq_getElem ht, @eq_comm _ raw[t]]

/-- A window depends only on the levels in it. -/
theorem constantFrom_append {raw : List Level} {w t : Nat} (l : List Level) (h : t + w ≤ raw.length) :
    constantFrom (raw ++ l) w t = constantFrom raw w t := by
  have hget : ∀ i < w, (raw ++ l)[t + i]? = raw[t + i]? := fun i hi => List.getElem?_append_left (by omega)
  rw [Bool.eq_iff_iff, constantFrom_iff, constantFrom_iff]
  refine and_congr (iff_of_true (by rw [List.length_append]; omega) h) (forall₂_congr fun i hi => ?_)
  rw [hget i hi, show (raw ++ l)[t]? = raw[t]? from hget 0 (by omega)]

/-- An index is decided by the levels up to the end of its window. -/
theorem filteredLevel_append {raw : List Level} {w t : Nat} (l : List Level) (hw : 1 ≤ w)
    (h : t ≤ raw.length - (w - 1)) : filteredLevel (raw ++ l) w t = filteredLevel raw w t := by
  induction t with
  | zero => rfl
  | succ t ih =>
    rw [filteredLevel, filteredLevel, constantFrom_append l (by omega), ih (by omega),
      List.getElem?_append_left (by omega)]

/-- What the filter holds once the levels `raw` have gone in from an empty queue: the last W − 1 of them, and the last
decided level of the filtered sequence. -/
structure Filtered (raw : List Level) (s : State) : Prop where
  queue : s.gf.rq = raw.drop (raw.length - (s.window - 1))
  level : s.gf.flt = filteredLevel raw s.window (raw.length - (s.window - 1))

theorem glitchFilter_window (n : Time) (r : Level) (s : State) : (glitchFilter n r s).window = s.window :=
  congrArg (fun c => max c.mgw.toNat 1) (glitchFilter_frame n r s).cfg

theorem glitchFilter_filtered (n : Time) (r : Level) {raw : List Level} {s : State} (h : Filtered raw s) :
    Filtered (raw ++ [r]) (glitchFilter n r s) := by
  have hw : 1 ≤ s.window := Nat.le_max_right _ _
  have hq : s.gf.rq ++ [r] = (raw ++ [r]).drop (raw.length - (s.window - 1)) := by
    rw [h.queue, List.drop_append_of_le_length (Nat.sub_le _ _)]
  have hqlen : (s.gf.rq ++ [r]).length = raw.length + 1 - (raw.length - (s.window - 1)) := by simp [hq]
  have hlen : (raw ++ [r]).length = raw.length + 1 := List.length_append
  by_cases hfull : (s.gf.rq ++ [r]).length = s.window
  · have hgf : (glitchFilter n r s).gf = { s.gf with
        rq := (s.gf.rq ++ [r]).tail, flt := filterDecision (s.gf.rq ++ [r]) s.gf.flt } := by
      rw [glitchFilter_of_full n hfull, clockRecoveryStep_gf]
    have ht : (raw ++ [r]).length - (s.window - 1) = raw.length - (s.window - 1) + 1 := by omega
    constructor
    · rw [hgf, glitchFilter_window, ht, hq, List.tail_drop]
    · rw [hgf, glitchFilter_window, ht, hq, h.level, ← filteredLevel_append [r] hw le_rfl]
      exact filterDecision_drop hw (by omega)
  · have hgf : (glitchFilter n r s).gf = { s.gf with rq := s.gf.rq ++ [r] } := by
      rw [glitchFilter_of_not_full n hfull]
    have ht : (raw ++ [r]).length - (s.window - 1) = raw.length - (s.window - 1) := by omega
    constructor
    · rw [hgf, glitchFilter_window, ht, hq]
    · rw [hgf, glitchFilter_window, ht, h.level, filteredLevel_append [r] hw le_rfl]

theorem runFilter_filtered (l : List Level) (n : Time) {raw : List Level} {s : State} (h : Filtered raw s) :
    Filtered (raw ++ l) (runFilter n l s) := by
  induction l generalizing n raw s with
  | nil => rwa [List.append_nil]
  | cons r l ih =>
    rw [List.append_cons]
    exact ih (n + 1#64) (glitchFilter_filtered n r h)

theorem runFilter_window (l : List Level) (n : Time) (s : State) : (runFilter n l s).window = s.window := by
  induction l generalizing n s with
  | nil => rfl
  | cons r l ih => exact (ih _ _).trans (glitchFilter_window n r s)

/-- Settles O34: one step decides by the oldest queued level, and a run keeps `Filtered`. -/
theorem filterDeliversTheFilteredSequence : Obligations.FilterDeliversTheFilteredSequence := by
  refine ⟨fun n raw s => ?_, fun raw n s hrq hflt => ?_⟩
  · intro w q first f
    have hf : filterDecision q s.gf.flt = f := filterDecision_eq_head _ _
    rw [← hf]
    rfl
  · have h : Filtered [] s := ⟨by simp [hrq], by rw [hflt, List.length_nil, Nat.zero_sub, filteredLevel]⟩
    have hrun := (runFilter_filtered raw n h).level
    rwa [runFilter_window] at hrun

end Sys2Proof.Proofs

/-! ## Clock recovery -/

namespace Sys2Proof.Proofs

open Sys2Proof.Machine Sys2Proof.Safety Sys2Proof.Laws

/-! ### The timing step -/

theorem timingStep_of_hunt (edge : Bool) {s : State} (hm : s.cr.crm = .hunt) : timingStep edge s = huntStep edge s := by
  rw [timingStep, hm]

theorem timingStep_of_sync (edge : Bool) {s : State} (hm : s.cr.crm = .sync) : timingStep edge s = syncStep edge s := by
  rw [timingStep, hm]

theorem timingStep_of_sof {edge : Bool} {s : State} (hm : s.cr.crm = .hunt) (hedge : edge = true)
    (hidle : s.cfg.nbp.toNat ≤ s.cr.idlecnt.toNat) : timingStep edge s = hardSync s :=
  (timingStep_of_hunt edge hm).trans (if_pos ⟨hedge, hidle⟩)

theorem timingStep_of_no_sof {edge : Bool} {s : State} (hm : s.cr.crm = .hunt)
    (h : ¬ (edge = true ∧ s.cfg.nbp.toNat ≤ s.cr.idlecnt.toNat)) : timingStep edge s = s :=
  (timingStep_of_hunt edge hm).trans (if_neg h)

/-- R144: `bitBoundary` field by field. -/
theorem bitBoundary_eq (nbp : BitVec 16) (c : ClockRecovery) : bitBoundary nbp c = { c with
    ph := if c.ph + 1#16 = c.blen then 0#16 else c.ph + 1#16
    blen := if c.ph + 1#16 = c.blen then nbp else c.blen
    smp := if c.ph + 1#16 = c.blen then false else c.smp } := by
  unfold bitBoundary
  dsimp only
  split <;> rfl

/-- Settles O36: the two cases of HUNT, and the step of SYNC. -/
theorem huntAndBitTiming : Obligations.HuntAndBitTiming := by
  intro s f fp edge
  refine ⟨fun hm hedge hidle => timingStep_of_sof hm hedge hidle, fun hm h => timingStep_of_no_sof hm h, fun hm => ?_⟩
  intro full c
  rw [timingStep_of_sync _ hm, syncStep, bitBoundary_eq]
  rfl

/-! ### The soft resync -/

section
variable {nbp sjw : BitVec 16} {edge : Bool} {c : ClockRecovery}

theorem resyncQualifies_iff : resyncQualifies edge c = true ↔ edge = true ∧ c.ph ≠ 0#16 ∧ c.rsy = false := by
  simp [resyncQualifies, and_assoc]

theorem edgeIsLate_iff : edgeIsLate c = true ↔ c.smp = false ∨ 2 * c.ph.toNat ≤ c.blen.toNat := by
  simp only [edgeIsLate, Bool.or_eq_true, Bool.not_eq_true', decide_eq_true_eq]
  exact or_congr_right (by omega)

theorem softResync_of_unqualified (h : ¬ (edge = true ∧ c.ph ≠ 0#16 ∧ c.rsy = false)) :
    softResync nbp sjw edge c = c := if_neg (mt resyncQualifies_iff.mp h)

theorem softResync_of_late (hq : edge = true ∧ c.ph ≠ 0#16 ∧ c.rsy = false)
    (hl : c.smp = false ∨ 2 * c.ph.toNat ≤ c.blen.toNat) : softResync nbp sjw edge c = lateShift sjw c := by
  rw [softResync, if_pos (resyncQualifies_iff.mpr hq), if_pos (edgeIsLate_iff.mpr hl)]

theorem softResync_of_early (hq : edge = true ∧ c.ph ≠ 0#16 ∧ c.rsy = false)
    (hl : ¬ (c.smp = false ∨ 2 * c.ph.toNat ≤ c.blen.toNat)) : softResync nbp sjw edge c = earlyShift nbp sjw c := by
  rw [softResync, if_pos (resyncQualifies_iff.mpr hq), if_neg (mt edgeIsLate_iff.mp hl)]

/-- R149: with more than SJW samples left, an early edge shortens the bit by SJW. -/
theorem earlyShift_of_far (h : sjw.toNat < c.blen.toNat - c.ph.toNat) :
    earlyShift nbp sjw c = { c with blen := BitVec.ofNat 16 (c.blen.toNat - sjw.toNat), rsy := true } := by
  have hlen : BitVec.ofInt 16 ((c.blen.toNat : Int) - min ((c.blen.toNat : Int) - c.ph.toNat) sjw.toNat) =
      BitVec.ofNat 16 (c.blen.toNat - sjw.toNat) := by
    apply BitVec.eq_of_toNat_eq
    rw [earlyLength_toNat sjw (by omega), BitVec.toNat_ofNat]
    omega
  have hne : BitVec.ofNat 16 (c.blen.toNat - sjw.toNat) ≠ c.ph := by bv_omega
  rw [earlyShift, hlen]
  exact if_neg hne

/-- R149: with at most SJW samples left, an early edge starts a new bit. -/
theorem earlyShift_of_near (hlt : c.ph.toNat < c.blen.toNat) (h : c.blen.toNat - c.ph.toNat ≤ sjw.toNat) :
    earlyShift nbp sjw c = { c with ph := 0#16, blen := nbp, smp := false, rsy := true } := by
  have hlen : BitVec.ofInt 16 ((c.blen.toNat : Int) - min ((c.blen.toNat : Int) - c.ph.toNat) sjw.toNat) = c.ph := by
    apply BitVec.eq_of_toNat_eq
    rw [earlyLength_toNat sjw hlt]
    omega
  rw [earlyShift, hlen]
  exact if_pos rfl

end

/-- What a soft resync can do (R147 to R149) to a bit whose phase lies in it. -/
inductive ResyncEffect (nbp sjw : BitVec 16) (c : ClockRecovery) : ClockRecovery → Prop where
  | none : ResyncEffect nbp sjw c c
  | late (hr : c.rsy = false) (ph : BitVec 16) (hph : ph.toNat = c.ph.toNat - min c.ph.toNat sjw.toNat) :
    ResyncEffect nbp sjw c { c with ph := ph, rsy := true }
  | shorten (hr : c.rsy = false) (hs : c.smp = true) (hfar : sjw.toNat < c.blen.toNat - c.ph.toNat) (blen : BitVec 16)
    (hblen : blen.toNat = c.blen.toNat - sjw.toNat) : ResyncEffect nbp sjw c { c with blen := blen, rsy := true }
  | restart (hr : c.rsy = false) (hs : c.smp = true) (hnear : c.blen.toNat - c.ph.toNat ≤ sjw.toNat) :
    ResyncEffect nbp sjw c { c with ph := 0#16, blen := nbp, smp := false, rsy := true }

theorem softResync_effect (nbp sjw : BitVec 16) (edge : Bool) {c : ClockRecovery} (hlt : c.ph.toNat < c.blen.toNat) :
    ResyncEffect nbp sjw c (softResync nbp sjw edge c) := by
  by_cases hq : edge = true ∧ c.ph ≠ 0#16 ∧ c.rsy = false
  · by_cases hl : c.smp = false ∨ 2 * c.ph.toNat ≤ c.blen.toNat
    · rw [softResync_of_late hq hl]
      exact .late hq.2.2 _ (by rw [BitVec.toNat_ofNat]; omega)
    · have hs : c.smp = true := by simpa using (not_or.mp hl).1
      rw [softResync_of_early hq hl]
      by_cases hnear : c.blen.toNat - c.ph.toNat ≤ sjw.toNat
      · rw [earlyShift_of_near hlt hnear]
        exact .restart hq.2.2 hs hnear
      · rw [earlyShift_of_far (Nat.lt_of_not_le hnear)]
        exact .shorten hq.2.2 hs (Nat.lt_of_not_le hnear) _ (by rw [BitVec.toNat_ofNat]; omega)
  · rw [softResync_of_unqualified hq]
    exact .none

/-- R152 item 1: the end of the bit moves by at most SJW, or the new bit starts at most SJW samples before it. -/
theorem ResyncEffect.bounded {nbp sjw : BitVec 16} {c d : ClockRecovery} (h : ResyncEffect nbp sjw c d) :
    (d.blen.toNat - d.ph.toNat ≤ c.blen.toNat - c.ph.toNat + sjw.toNat ∧
      c.blen.toNat - c.ph.toNat ≤ d.blen.toNat - d.ph.toNat + sjw.toNat) ∨
    (d.ph = 0#16 ∧ c.blen.toNat - c.ph.toNat ≤ sjw.toNat) := by
  cases h with
  | none => exact .inl (by omega)
  | late _ _ hph => exact .inl (by dsimp only; omega)
  | shorten _ _ _ _ hblen => exact .inl (by dsimp only; omega)
  | restart _ _ hnear => exact .inr ⟨rfl, hnear⟩

/-- Settles O37: no qualified edge, a late edge, and the two cases of an early one. -/
theorem softResyncIsBounded : Obligations.SoftResyncIsBounded := by
  intro c nbp sjw edge hlt d qualified late
  refine ⟨softResync_of_unqualified, softResync_of_late, fun hq hl hfar => ?_, fun hq hl hnear => ?_,
    (softResync_effect nbp sjw edge hlt).bounded⟩
  · exact (softResync_of_early hq hl).trans (earlyShift_of_far hfar)
  · exact (softResync_of_early hq hl).trans (earlyShift_of_near hlt hnear)

/-! ### Sampling -/

theorem clockRecoveryStep_of_due (t : Time) {f fp : Level} {s : State}
    (hdue : samplingDue (timingStep (isEdge f fp) s) = true) : clockRecoveryStep t f fp s =
      idleStep f (destuffBit t f (timingStep (isEdge f fp) s).cr.sofp (markSampled (timingStep (isEdge f fp) s))) :=
  congrArg (idleStep f) (sampleStep_of_due t f hdue)

theorem clockRecoveryStep_of_not_due (t : Time) {f fp : Level} {s : State}
    (hdue : samplingDue (timingStep (isEdge f fp) s) = false) :
    clockRecoveryStep t f fp s = idleStep f (timingStep (isEdge f fp) s) :=
  congrArg (idleStep f) (sampleStep_of_not_due t f hdue)

@[simp] theorem bitBoundary_idlecnt (nbp : BitVec 16) (c : ClockRecovery) : (bitBoundary nbp c).idlecnt = c.idlecnt := by
  rw [bitBoundary_eq]

@[simp] theorem softResync_idlecnt (nbp sjw : BitVec 16) (edge : Bool) (c : ClockRecovery) :
    (softResync nbp sjw edge c).idlecnt = c.idlecnt := by
  unfold softResync
  split
  · split
    · rfl
    · unfold earlyShift; dsimp only; split <;> rfl
  · rfl

/-- R150: the timing leaves IDLECNT to the end of the step. -/
@[simp] theorem timingStep_idlecnt (edge : Bool) (s : State) : (timingStep edge s).cr.idlecnt = s.cr.idlecnt := by
  have he := timingStep_effect edge s
  generalize timingStep edge s = t at he
  cases he with
  | hunt => rfl
  | sof => rfl
  | run => simp

/-- Settles O38: the sampling is due or not. -/
theorem samplingAtTheSamplePoint : Obligations.SamplingAtTheSamplePoint := by
  intro s t f fp a idle
  have hiff : samplingDue a = true ↔ a.cr.crm = .sync ∧ a.cr.smp = false ∧ a.cr.ph = s.cfg.spo := by
    rw [samplingDue_iff, timingStep_cfg]
  refine ⟨fun h => ?_, fun h => ?_⟩
  · intro b
    rw [clockRecoveryStep_of_due t (hiff.mpr h), idleStep, destuffBit_cr]
    simp [idle, b, a, markSampled, sat]
  · rw [clockRecoveryStep_of_not_due t (Bool.eq_false_iff.mpr (mt hiff.mp h)), idleStep, timingStep_idlecnt]
    rfl

/-! ### The samples up to the next sampling -/

/-- The filtered samples from the present one to the next sampling, if no edge comes: over the rest of a sampled bit to
the sample point of the next, or to the sample point of this one. -/
def samplesToPoint (g : CfgRegs) (c : ClockRecovery) : Nat :=
  if c.smp then c.blen.toNat - c.ph.toNat + g.spo.toNat else g.spo.toNat - c.ph.toNat

/-- By how much a resync can still move the next sampling: SJW, or nothing once one has been done (R147). -/
def resyncRoom (g : CfgRegs) (c : ClockRecovery) : Nat := if c.rsy then 0 else g.sjw.toNat

/-- A block in SYNC under the legal configuration `g`, its phase in its bit. -/
structure Timed (g : CfgRegs) (s : State) : Prop where
  config : configOk g = true
  cfg : s.cfg = g
  mode : s.cr.crm = .sync
  inBit : InBit g s.cr

theorem samplesToPoint_eq_zero_iff {g : CfgRegs} {s : State} (h : Timed g s) :
    samplesToPoint g s.cr = 0 ↔ samplingDue s = true := by
  have hlt := h.inBit.phase
  rw [samplingDue_iff, h.cfg]
  unfold samplesToPoint
  cases hs : s.cr.smp with
  | true =>
    simp only [↓reduceIte, Bool.true_eq_false, false_and, and_false, iff_false]
    omega
  | false =>
    have hto := h.inBit.toPoint hs
    simp only [Bool.false_eq_true, ↓reduceIte, h.mode, true_and, ← BitVec.toNat_inj]
    omega

/-- R145, R342: the last phase of a bit is past its sample point. -/
theorem InBit.sampled_of_last {g : CfgRegs} (hok : configOk g = true) {c : ClockRecovery} (h : InBit g c)
    (hdue : c.smp = false → c.ph ≠ g.spo) (hlast : c.blen.toNat = c.ph.toNat + 1) : c.smp = true := by
  obtain ⟨-, -, hspo, -⟩ := (configOk_iff g).mp hok
  cases hs : c.smp with
  | true => rfl
  | false =>
    have hto := h.toPoint hs
    have hne := hdue hs
    have hfull := h.full hs
    bv_omega

/-- R144: without an edge, the next sampling comes nearer by one sample. -/
theorem bitBoundary_samplesToPoint {g : CfgRegs} (hok : configOk g = true) {c : ClockRecovery} (h : InBit g c)
    (hdue : c.smp = false → c.ph ≠ g.spo) : samplesToPoint g (bitBoundary g.nbp c) + 1 = samplesToPoint g c := by
  have hlt := h.phase
  have hnext : (c.ph + 1#16).toNat = c.ph.toNat + 1 := by bv_omega
  rw [bitBoundary_eq]
  unfold samplesToPoint
  by_cases hend : c.ph + 1#16 = c.blen
  · have hlast : c.blen.toNat = c.ph.toNat + 1 := by rw [← hend, hnext]
    simp only [hend, ↓reduceIte, Bool.false_eq_true, BitVec.toNat_ofNat, h.sampled_of_last hok hdue hlast]
    omega
  · cases hs : c.smp with
    | true =>
      simp only [hend, ↓reduceIte, hnext]
      omega
    | false =>
      have hto := h.toPoint hs
      have hne := hdue hs
      simp only [hend, ↓reduceIte, Bool.false_eq_true, hnext]
      bv_omega

/-- R147 to R149: a resync moves the next sampling by at most SJW, and only where none has been done since the last. -/
theorem ResyncEffect.samplesToPoint_le {g : CfgRegs} {c d : ClockRecovery} (he : ResyncEffect g.nbp g.sjw c d)
    (h : InBit g c) : samplesToPoint g d + resyncRoom g d ≤ samplesToPoint g c + resyncRoom g c ∧
      samplesToPoint g c + resyncRoom g d ≤ samplesToPoint g d + resyncRoom g c := by
  have hlt := h.phase
  unfold samplesToPoint resyncRoom
  cases he with
  | none => omega
  | late hr ph hph =>
    cases hs : c.smp with
    | true =>
      simp only [↓reduceIte, hr, Bool.false_eq_true]
      omega
    | false =>
      have hto := h.toPoint hs
      simp only [↓reduceIte, hr, Bool.false_eq_true]
      omega
  | shorten hr hs hfar blen hblen =>
    simp only [↓reduceIte, hr, hs, Bool.false_eq_true]
    omega
  | restart hr hs hnear =>
    simp only [↓reduceIte, hr, hs, Bool.false_eq_true, BitVec.toNat_ofNat]
    omega

/-- In SYNC between two steps: no bit is due, since one at its sample point has just been sampled. -/
structure Waiting (g : CfgRegs) (s : State) : Prop extends Timed g s where
  notDue : samplingDue s = false

section
variable {g : CfgRegs} {s : State}

theorem Waiting.unsampled_ne (h : Waiting g s) (hu : s.cr.smp = false) : s.cr.ph ≠ g.spo := by
  simpa [samplingDue, h.mode, hu, h.cfg] using h.notDue

theorem Waiting.boundary_inBit (h : Waiting g s) : InBit g (bitBoundary g.nbp s.cr) :=
  bitBoundary_inBit h.config h.inBit h.unsampled_ne

theorem Waiting.timingStep_cr (h : Waiting g s) (edge : Bool) :
    (timingStep edge s).cr = softResync g.nbp g.sjw edge (bitBoundary g.nbp s.cr) := by
  rw [timingStep_of_sync edge h.mode, syncStep_cr, h.cfg]

theorem Waiting.timingStep_timed (h : Waiting g s) (edge : Bool) : Timed g (timingStep edge s) where
  config := h.config
  cfg := (timingStep_cfg edge s).trans h.cfg
  mode := timingStep_keeps_sync edge h.mode
  inBit := by
    rw [h.timingStep_cr]
    exact softResync_inBit h.config _ _ h.boundary_inBit

/-- Without an edge, a step of the timing brings the next sampling one sample nearer. -/
theorem Waiting.samplesToPoint_of_no_edge (h : Waiting g s) :
    samplesToPoint g (timingStep false s).cr + 1 = samplesToPoint g s.cr := by
  rw [h.timingStep_cr, softResync_of_unqualified (by simp)]
  exact bitBoundary_samplesToPoint h.config h.inBit h.unsampled_ne

/-- A step of the timing brings the next sampling one sample nearer, but for what a resync moves it. -/
theorem Waiting.samplesToPoint_le (h : Waiting g s) (edge : Bool) :
    samplesToPoint g (timingStep edge s).cr + 1 + resyncRoom g (timingStep edge s).cr ≤
      samplesToPoint g s.cr + resyncRoom g s.cr ∧
    samplesToPoint g s.cr + resyncRoom g (timingStep edge s).cr ≤
      samplesToPoint g (timingStep edge s).cr + 1 + resyncRoom g s.cr := by
  have hnear := bitBoundary_samplesToPoint h.config h.inBit h.unsampled_ne
  have hroom : resyncRoom g (bitBoundary g.nbp s.cr) = resyncRoom g s.cr := by rw [bitBoundary_eq]; rfl
  have hmoved := (softResync_effect g.nbp g.sjw edge h.boundary_inBit.phase).samplesToPoint_le h.boundary_inBit
  rw [h.timingStep_cr]
  omega

variable {t : Time} {f fp : Level}

/-- A step whose timing leaves nothing due leaves that timing. -/
theorem clockRecoveryStep_waiting_of_not_due (h : Timed g (timingStep (isEdge f fp) s))
    (hdue : samplingDue (timingStep (isEdge f fp) s) = false) :
    Waiting g (clockRecoveryStep t f fp s) ∧
      samplesToPoint g (clockRecoveryStep t f fp s).cr = samplesToPoint g (timingStep (isEdge f fp) s).cr ∧
      resyncRoom g (clockRecoveryStep t f fp s).cr = resyncRoom g (timingStep (isEdge f fp) s).cr := by
  rw [clockRecoveryStep_of_not_due t hdue]
  obtain ⟨hphase, hfits, htoPoint, hfull⟩ := h.inBit
  exact ⟨⟨⟨h.config, h.cfg, h.mode, ⟨hphase, hfits, htoPoint, hfull⟩⟩, hdue⟩, rfl, rfl⟩

/-- R145: after a sampling the next is NBP samples away, and a resync can move it by SJW. -/
theorem clockRecoveryStep_waiting_of_due (h : Timed g (timingStep (isEdge f fp) s))
    (hdue : samplingDue (timingStep (isEdge f fp) s) = true) :
    Waiting g (clockRecoveryStep t f fp s) ∧ samplesToPoint g (clockRecoveryStep t f fp s).cr = g.nbp.toNat ∧
      resyncRoom g (clockRecoveryStep t f fp s).cr = g.sjw.toNat := by
  obtain ⟨-, hu, hp⟩ := (samplingDue_iff _).mp hdue
  have hcfg : (clockRecoveryStep t f fp s).cfg = g := by rw [clockRecoveryStep_cfg, ← timingStep_cfg, h.cfg]
  have hcr : ∃ idle, (clockRecoveryStep t f fp s).cr =
      { (markSampled (timingStep (isEdge f fp) s)).cr with idlecnt := idle } := by
    rw [clockRecoveryStep_of_due t hdue, idleStep_cr, destuffBit_cr]
    exact ⟨_, rfl⟩
  obtain ⟨idle, hcr⟩ := hcr
  have hlt := h.inBit.phase
  have hlen := h.inBit.full hu
  rw [h.cfg] at hp
  refine ⟨⟨⟨h.config, hcfg, ?_, ?_⟩, ?_⟩, ?_, ?_⟩
  · rw [hcr]
    exact h.mode
  · rw [hcr]
    exact ⟨hlt, h.inBit.fits, by simp [markSampled], by simp [markSampled]⟩
  · simp [samplingDue, hcr, markSampled]
  · rw [hlen, hp] at hlt
    simp only [hcr, samplesToPoint, markSampled, hlen, hp, ↓reduceIte]
    omega
  · rw [hcr]
    rfl

end

/-! ### The distance between samplings -/

/-- R145: the flags of a list that is not empty. -/
theorem samplingFlags_cons (t : Time) (held f : Level) (fs : List Level) (s : State) :
    samplingFlags t held (f :: fs) s =
      samplingDue (timingStep (isEdge f held) s) :: samplingFlags (t + 1#64) f fs (clockRecoveryStep t f held s) := rfl

/-- In SYNC the next sampling comes after `samplesToPoint` samples, give or take the room for a resync. -/
theorem samplingFlags_distance {g : CfgRegs} (k : Nat) {t : Time} {held : Level} {fs : List Level} {s : State}
    (h : Waiting g s) (hfl : samplingFlags t held fs s = List.replicate k false ++ [true]) :
    samplesToPoint g s.cr ≤ k + 1 + resyncRoom g s.cr ∧ k + 1 ≤ samplesToPoint g s.cr + resyncRoom g s.cr := by
  induction k generalizing t held fs s with
  | zero =>
    cases fs with
    | nil => cases hfl
    | cons f fs =>
      obtain ⟨hdue, -⟩ := List.cons.inj hfl
      have hzero := (samplesToPoint_eq_zero_iff (h.timingStep_timed _)).mpr hdue
      have hle := h.samplesToPoint_le (isEdge f held)
      omega
  | succ k ih =>
    cases fs with
    | nil => cases hfl
    | cons f fs =>
      obtain ⟨hdue, hrest⟩ := List.cons.inj hfl
      obtain ⟨hwait, hsame, hroom⟩ := clockRecoveryStep_waiting_of_not_due (t := t) (h.timingStep_timed _) hdue
      have hnext := ih hwait hrest
      have hle := h.samplesToPoint_le (isEdge f held)
      omega

/-- Settles O39: after a sampling the next is NBP samples away, with SJW as the room for a resync. -/
theorem samplingsAreSpacedByTheBitPeriod : Obligations.SamplingsAreSpacedByTheBitPeriod := by
  intro s t held fs k hinv hen hfl
  cases fs with
  | nil => cases hfl
  | cons f fs =>
    obtain ⟨hdue, hrest⟩ := List.cons.inj hfl
    obtain ⟨hmid, hnot⟩ := (inv_iff_midStep hen).mp hinv
    have ha := timingStep_midStep (isEdge f held) hmid hnot
    have hm := ((samplingDue_iff _).mp hdue).1
    have hcfg := timingStep_cfg (isEdge f held) s
    have htimed : Timed s.cfg (timingStep (isEdge f held) s) := ⟨hmid.config, hcfg, hm, hcfg ▸ ha.inBit hm⟩
    obtain ⟨hwait, hnbp, hsjw⟩ := clockRecoveryStep_waiting_of_due (t := t) htimed hdue
    have hdist := samplingFlags_distance k hwait hrest
    rwa [hnbp, hsjw] at hdist

/-! ### Sampling without edges -/

/-- R143: no Recessive to Dominant edge between two filtered levels. -/
def NoEdge (fp f : Level) : Prop := isEdge f fp = false

/-- An index is `q` past a multiple of the period `q + 1` exactly if the next index is a multiple of it. -/
theorem le_and_sub_mod_eq_zero_iff {q p i : Nat} (h : q + 1 = p) : (q ≤ i ∧ (i - q) % p = 0) ↔ (i + 1) % p = 0 := by
  by_cases hle : q ≤ i
  · have hsum : i + 1 = i - q + p := by omega
    rw [hsum, Nat.add_mod_right]
    exact and_iff_right hle
  · rw [Nat.mod_eq_of_lt (show i + 1 < p by omega)]
    exact iff_of_false (fun hq => hle hq.1) (Nat.succ_ne_zero i)

/-- R152 item 4: from a step whose timing leaves the block in SYNC on, with no further edge, a bit is sampled at its
sample point and then every NBP samples. -/
theorem samplingFlags_of_no_edge {g : CfgRegs} (i : Nat) {t : Time} {held f : Level} {fs : List Level} {s : State}
    (h : Timed g (timingStep (isEdge f held) s)) (hcalm : (f :: fs).IsChain NoEdge) (hi : i < (f :: fs).length) :
    (samplingFlags t held (f :: fs) s)[i]? =
      some (decide (samplesToPoint g (timingStep (isEdge f held) s).cr ≤ i ∧
        (i - samplesToPoint g (timingStep (isEdge f held) s).cr) % g.nbp.toNat = 0)) := by
  induction i generalizing t held f fs s with
  | zero =>
    rw [samplingFlags_cons, List.getElem?_cons_zero, Option.some.injEq, Bool.eq_iff_iff, ← samplesToPoint_eq_zero_iff h]
    simp
  | succ i ih =>
    cases fs with
    | nil => simp at hi
    | cons f' fs =>
      obtain ⟨hno, hrest⟩ := List.isChain_cons_cons.mp hcalm
      have hrestlen : i < (f' :: fs).length := by simpa using hi
      rw [samplingFlags_cons, List.getElem?_cons_succ]
      cases hdue : samplingDue (timingStep (isEdge f held) s) with
      | false =>
        obtain ⟨hwait, hsame, -⟩ := clockRecoveryStep_waiting_of_not_due (t := t) h hdue
        rw [ih (hwait.timingStep_timed _) hrest hrestlen, ← hsame, ← hwait.samplesToPoint_of_no_edge, hno]
        simp
      | true =>
        obtain ⟨hwait, hnbp, -⟩ := clockRecoveryStep_waiting_of_due (t := t) h hdue
        have hnear := hwait.samplesToPoint_of_no_edge.trans hnbp
        rw [ih (hwait.timingStep_timed _) hrest hrestlen, (samplesToPoint_eq_zero_iff h).mpr hdue, hno]
        simp [le_and_sub_mod_eq_zero_iff hnear]

/-- Dominant levels and then recessive ones hold no edge. -/
theorem noEdge_dominant_recessive (m k : Nat) :
    (.dominant :: (List.replicate m .dominant ++ List.replicate k .recessive)).IsChain NoEdge := by
  have hd : (List.replicate (m + 1) Level.dominant).IsChain NoEdge := List.isChain_replicate_of_rel _ rfl
  have hr : (List.replicate k Level.recessive).IsChain NoEdge := List.isChain_replicate_of_rel _ rfl
  refine hd.append hr fun x hx y _ => ?_
  rw [List.eq_of_mem_replicate (List.mem_of_mem_getLast? hx)]
  cases y <;> rfl

/-- Settles O40: the hard sync leaves the block SPO samples before its first sampling. -/
theorem undisturbedSamplingIsPeriodic : Obligations.UndisturbedSamplingIsPeriodic := by
  intro s t m k i hok hm hidle hi
  have hsof : timingStep (isEdge .dominant .recessive) s = hardSync s := timingStep_of_sof hm rfl hidle
  have hpoint : samplesToPoint s.cfg (hardSync s).cr = s.cfg.spo.toNat := by simp [samplesToPoint]
  have htimed : Timed s.cfg (hardSync s) := ⟨hok, rfl, rfl, inBit_start hok rfl rfl⟩
  rw [← hpoint, ← hsof]
  refine samplingFlags_of_no_edge i (hsof ▸ htimed) (noEdge_dominant_recessive m k) ?_
  simp only [List.length_cons, List.length_append, List.length_replicate]
  omega

end Sys2Proof.Proofs

/-! ## Runs and stuff bits -/

namespace Sys2Proof.Proofs

open Sys2Proof.Machine

/-! ### The class of one bit -/

/-- R182: a bit before the slot is a data bit; it lengthens a run of its own level and starts one otherwise. -/
theorem classifyBit_of_lt {cnt : BitVec 3} (lv b : Level) (h : cnt.toNat < 5) : classifyBit cnt lv b =
    { data := true, stuff := false, serr := false,
      cnt := if 0 < cnt.toNat ∧ b = lv then BitVec.ofNat 3 (cnt.toNat + 1) else 1#3, lv := b } := by
  have hne : cnt ≠ Config.stuffRun := fun he => by simp [he, Config.stuffRun] at h
  rw [classifyBit, if_neg hne]
  split
  · next hrun => rw [hrun.2, BitVec.ofNat_add, BitVec.ofNat_toNat, BitVec.setWidth_eq]
  · rfl

/-- R183, R184: the bit in the slot is a violation where it continues the run and a stuff bit where it breaks it. -/
theorem classifyBit_of_slot (lv b : Level) : classifyBit 5#3 lv b =
    { data := decide (b = lv), stuff := decide (b ≠ lv), serr := decide (b = lv), cnt := 1#3, lv := b } := by
  have hslot : 5#3 = Config.stuffRun := rfl
  rw [classifyBit, if_pos hslot]
  by_cases hb : b = lv <;> simp [hb]

/-- R182, R183: a region bit is a data bit or a stuff bit. -/
theorem classifyBit_data (cnt : BitVec 3) (lv b : Level) :
    (classifyBit cnt lv b).data = !(classifyBit cnt lv b).stuff := by
  unfold classifyBit
  split
  · split <;> rfl
  · split <;> rfl

/-- Settles O41: the two forms of the class, before the slot and in it. -/
theorem runsAreCounted : Obligations.RunsAreCounted := by
  intro cnt lv b
  refine ⟨fun h => ?_, fun h => ?_⟩
  · rw [classifyBit_of_lt lv b h]
    split <;> rfl
  · rw [BitVec.eq_of_toNat_eq (y := 5#3) h, classifyBit_of_slot]
    by_cases hb : b = lv <;> simp [hb]

/-! ### What a valid transmitter stuffs is classified as it was marked (R191, R192) -/

/-- What a BIT record shows of a classified bit: VAL, STUFF, SERR. -/
def classMarks (p : Level × BitClass) : Level × Bool × Bool := (p.1, p.2.stuff, p.2.serr)

/-- What a BIT record is to show of a bit a valid transmitter sends: no violation. -/
def sentMarks (m : Level × Bool) : Level × Bool × Bool := (m.1, m.2, false)

/-- The destuffer's run is the transmitter's. -/
theorem classifyBit_cnt_toNat {cnt : BitVec 3} {lv : Level} {last : Option Level} (x : Level) (h : cnt.toNat < 5)
    (hlast : 0 < cnt.toNat → last = some lv) :
    (classifyBit cnt lv x).cnt.toNat = if last = some x then cnt.toNat + 1 else 1 := by
  rw [classifyBit_of_lt lv x h]
  rcases Nat.eq_zero_or_pos cnt.toNat with h0 | hpos
  · simp [h0]
  · by_cases hx : x = lv
    · simp only [hpos, hx, hlast hpos, and_self, if_true, BitVec.toNat_ofNat]
      omega
    · simp [hx, hlast hpos, Ne.symm hx]

theorem opposite_ne (x : Level) : opposite x ≠ x := by cases x <;> decide

theorem classifyRun_stuffMarkedFrom (bits : List Level) {cnt : BitVec 3} {lv : Level} {last : Option Level}
    (h : cnt.toNat < 5) (hlast : 0 < cnt.toNat → last = some lv) :
    (classifyRun cnt lv ((stuffMarkedFrom cnt.toNat last bits).map Prod.fst)).map classMarks =
      (stuffMarkedFrom cnt.toNat last bits).map sentMarks := by
  induction bits generalizing cnt lv last with
  | nil => rfl
  | cons x xs ih =>
    have hcnt := classifyBit_cnt_toNat x h hlast
    have hle := classifyBit_cnt_le cnt lv x (by omega)
    have hc := classifyBit_of_lt lv x h
    have hhead : classMarks (x, classifyBit cnt lv x) = sentMarks (x, false) := by rw [hc]; rfl
    have hlv : (classifyBit cnt lv x).lv = x := by rw [hc]
    rw [stuffMarkedFrom, ← hcnt]
    split
    · next h5 =>
      have hslot : (classifyBit cnt lv x).cnt = 5#3 := BitVec.eq_of_toNat_eq h5
      have htail := ih (cnt := 1#3) (lv := opposite x) (last := some (opposite x)) (by decide) fun _ => rfl
      simp only [List.map_cons, classifyRun, hhead, hlv, hslot, classifyBit_of_slot, List.cons.injEq, true_and]
      exact ⟨by simp [classMarks, sentMarks, opposite_ne], htail⟩
    · next h5 =>
      simp only [List.map_cons, classifyRun, hhead, hlv, List.cons.injEq, true_and]
      exact ih (by omega) fun _ => rfl

/-- R192: the bits not marked are the bits sent. -/
theorem stuffMarkedFrom_unmarked (bits : List Level) (run : Nat) (last : Option Level) :
    ((stuffMarkedFrom run last bits).filter (fun m => !m.2)).map Prod.fst = bits := by
  induction bits generalizing run last with
  | nil => rfl
  | cons x xs ih =>
    rw [stuffMarkedFrom]
    split_ifs <;> simp [ih]

theorem classifyRun_stuff (lv : Level) (bits : List Level) :
    (classifyRun 0#3 lv (stuff bits)).map classMarks = (stuffMarked bits).map sentMarks :=
  classifyRun_stuffMarkedFrom bits (cnt := 0#3) (by decide) fun h => absurd h (by decide)

/-- The data bits of a region are those not marked STUFF. -/
theorem dataBits_classifyRun (cnt : BitVec 3) (lv : Level) (w : List Level) : dataBits (classifyRun cnt lv w) =
    (((classifyRun cnt lv w).map classMarks).filter (fun m => !m.2.1)).map Prod.fst := by
  induction w generalizing cnt lv with
  | nil => rfl
  | cons b bs ih =>
    have hb := classifyBit_data cnt lv b
    have htail := ih (classifyBit cnt lv b).cnt (classifyBit cnt lv b).lv
    unfold dataBits at htail ⊢
    cases hs : (classifyBit cnt lv b).stuff <;> simp [classifyRun, classMarks, hb, hs, htail]

/-- R192: the data bits of what was stuffed are the bits sent. -/
theorem dataBits_stuff (lv : Level) (bits : List Level) : dataBits (classifyRun 0#3 lv (stuff bits)) = bits := by
  rw [dataBits_classifyRun, classifyRun_stuff, List.filter_map, List.map_map]
  exact stuffMarkedFrom_unmarked bits 0 none

end Sys2Proof.Proofs

/-! ## Records as words and in the queue -/

namespace Sys2Proof.Proofs

open Sys2Proof.Machine Sys2Proof.Laws

/-! ### The words of a record -/

/-- R102: `TYPE << 28 | data` as a sum. -/
theorem mkRecord_eq (ty : RecordType) (data : BitVec 28) (aux : Word) (n : Time) : mkRecord ty data aux n =
    { head := BitVec.ofNat 32 (ty.code.toNat * 2 ^ 28 + data.toNat), aux := aux, time := n } := by
  have hval : (ty.code ++ data).toNat = ty.code.toNat * 2 ^ 28 + data.toNat := by
    rw [BitVec.toNat_append, ← Nat.shiftLeft_add_eq_or_of_lt data.isLt, Nat.shiftLeft_eq]
  rw [mkRecord, ← hval, BitVec.ofNat_toNat]
  rfl

theorem mkRecord_head_getLsbD (ty : RecordType) (data : BitVec 28) (aux : Word) (n : Time) {k : Nat} (h : k < 28) :
    (mkRecord ty data aux n).head.getLsbD k = data.getLsbD k := by
  rw [mkRecord, BitVec.getLsbD_append, if_pos h]

/-- R107: the flags stand at bits 0 to 6. -/
theorem bitData_toNat (f : BitFlags) : (bitData f).toNat =
    f.val.bit.toNat + 2 * f.stuff.toNat + 4 * f.serr.toNat + 8 * f.region.toNat + 16 * f.sof.toNat +
      32 * f.crcf.toNat + 64 * f.crcb.toNat := by
  obtain ⟨val, stuff, serr, region, sof, crcf, crcb⟩ := f
  cases val <;> revert stuff serr region sof crcf crcb <;> decide

/-- R102, R107: the words of a BIT record. -/
theorem mkRecord_bit_eq (f : BitFlags) (aux : Word) (n : Time) : mkRecord .bit (bitData f) aux n =
    { head := BitVec.ofNat 32 (0x30000000 + f.val.bit.toNat + 2 * f.stuff.toNat + 4 * f.serr.toNat +
        8 * f.region.toNat + 16 * f.sof.toNat + 32 * f.crcf.toNat + 64 * f.crcb.toNat)
      aux := aux
      time := n } := by
  rw [mkRecord_eq, bitData_toNat]
  simp only [← Nat.add_assoc]
  rfl

/-- R107: VAL, STUFF and SERR as they are read back. -/
theorem bitData_getLsbD (f : BitFlags) :
    (bitData f).getLsbD 0 = f.val.bit ∧ (bitData f).getLsbD 1 = f.stuff ∧ (bitData f).getLsbD 2 = f.serr := by
  obtain ⟨val, stuff, serr, region, sof, crcf, crcb⟩ := f
  cases val <;> revert stuff serr region sof crcf crcb <;> decide

@[simp] theorem mkRecord_bitVal (f : BitFlags) (aux : Word) (n : Time) :
    (mkRecord .bit (bitData f) aux n).bitVal = f.val := by
  rw [Record.bitVal, mkRecord_head_getLsbD _ _ _ _ (by decide), (bitData_getLsbD f).1]
  cases f.val <;> rfl

@[simp] theorem mkRecord_bitStuff (f : BitFlags) (aux : Word) (n : Time) :
    (mkRecord .bit (bitData f) aux n).bitStuff = f.stuff := by
  rw [Record.bitStuff, mkRecord_head_getLsbD _ _ _ _ (by decide), (bitData_getLsbD f).2.1]

@[simp] theorem mkRecord_bitSerr (f : BitFlags) (aux : Word) (n : Time) :
    (mkRecord .bit (bitData f) aux n).bitSerr = f.serr := by
  rw [Record.bitSerr, mkRecord_head_getLsbD _ _ _ _ (by decide), (bitData_getLsbD f).2.2]

/-! ### Records queued as far as EVQ has room -/

/-- From `s` to `t` the records `l` are queued as far as EVQ has room, with OVF where one is dropped (R311). -/
structure Queues (l : List Record) (s t : State) : Prop where
  params : t.params = s.params
  evq : t.evq = (s.evq ++ l).take s.params.evqDepth
  sticky : t.sticky = if s.params.evqDepth < s.evq.length + l.length then s.sticky ||| Sticky.ovf.mask else s.sticky

/-- A state that agrees on EVQ, the parameters and the sticky bits queues nothing. -/
theorem Queues.of_eq {s t : State} (hroom : s.evq.length ≤ s.params.evqDepth) (hp : t.params = s.params)
    (hq : t.evq = s.evq) (hst : t.sticky = s.sticky) : Queues [] s t where
  params := hp
  evq := by rw [hq, List.append_nil, List.take_of_length_le hroom]
  sticky := by rw [hst, List.length_nil, if_neg (by omega)]

theorem emit_queues (ty : RecordType) (data : BitVec 28) (aux : Word) (n : Time) {s : State}
    (hroom : s.evq.length ≤ s.params.evqDepth) : Queues [mkRecord ty data aux n] s (emit ty data aux n s) := by
  refine ⟨emit_params _ _ _ _ _, ?_, ?_⟩
  · rw [emit_evq]
    split
    · next hfull => rw [← hfull, List.take_left]
    · rw [List.take_of_length_le (by simp; omega)]
  · rw [emit_sticky, List.length_singleton]
    exact if_congr (by omega) rfl rfl

theorem Queues.length_le {l : List Record} {s t : State} (h : Queues l s t) : t.evq.length ≤ t.params.evqDepth := by
  rw [h.evq, h.params]
  exact List.length_take_le _ _

theorem Queues.trans {l m : List Record} {s t u : State} (h : Queues l s t) (g : Queues m t u) :
    Queues (l ++ m) s u := by
  have hlen := List.length_append (as := s.evq) (bs := l)
  rcases Nat.lt_or_ge s.params.evqDepth (s.evq ++ l).length with hlt | hle
  · have hfull : ((s.evq ++ l).take s.params.evqDepth).length = s.params.evqDepth :=
      List.length_take_of_le (Nat.le_of_lt hlt)
    refine ⟨g.params.trans h.params, ?_, ?_⟩
    · rw [g.evq, h.evq, h.params, List.take_append_of_le_length (Nat.le_of_eq hfull.symm), List.take_take, Nat.min_self,
        ← List.append_assoc, List.take_append_of_le_length (Nat.le_of_lt hlt)]
    · have hdrop : t.sticky = s.sticky ||| Sticky.ovf.mask := by rw [h.sticky, if_pos (by omega)]
      rw [g.sticky, hdrop, BitVec.or_assoc, BitVec.or_self, ite_self, List.length_append, if_pos (by omega)]
  · have hevq := h.evq.trans (List.take_of_length_le hle)
    refine ⟨g.params.trans h.params, ?_, ?_⟩
    · rw [g.evq, hevq, h.params, List.append_assoc]
    · have hkeep : t.sticky = s.sticky := by rw [h.sticky, if_neg (by omega)]
      rw [g.sticky, hkeep, hevq, h.params, hlen, List.length_append, Nat.add_assoc]

/-- With room for the first record at least that one is appended. -/
theorem Queues.head {r : Record} {l : List Record} {s t : State} (h : Queues (r :: l) s t)
    (hroom : s.evq.length < s.params.evqDepth) : ∃ rest, t.evq = s.evq ++ r :: rest := by
  obtain ⟨k, hk⟩ := Nat.exists_eq_add_of_lt hroom
  exact ⟨l.take k, by rw [h.evq, hk, Nat.add_assoc, List.take_length_add_append, List.take_succ_cons]⟩

end Sys2Proof.Proofs

/-! ## The bit destuffer -/

namespace Sys2Proof.Proofs

open Sys2Proof.Machine Sys2Proof.Laws

/-! ### A region bit as a whole -/

/-- R181: outside the region a bit is only recorded. -/
theorem destuffBit_of_outside (n : Time) (b : Level) (sof : Bool) {s : State} (h : s.ds.dsAct = false) :
    destuffBit n b sof s = outsideBit n b s := by
  simp [destuffBit, h]

theorem destuffBit_of_open (n : Time) (b : Level) (sof : Bool) {s : State} (h : s.ds.dsAct = true) :
    destuffBit n b sof s = regionBit n b sof s := if_pos h

/-- A stage changes CRC, RXCRC, the CRC control, the destuffer, EVQ and the sticky bits at most, if it keeps the units
before the destuffer. -/
theorem eq_of_stageFrame {s t : State} (h : StageFrame s t) (hglitch : t.glitchCnt = s.glitchCnt)
    (hcmp : t.cmp = s.cmp) (hgf : t.gf = s.gf) (hcr : t.cr = s.cr) :
    t = { s with crc := t.crc, rxcrc := t.rxcrc, cc := t.cc, ds := t.ds, sticky := t.sticky, evq := t.evq } := by
  rw [← h.params, ← h.ctrl, ← h.cfg, ← h.crcdin, ← h.irqen, ← h.time, ← h.host, ← hglitch, ← hcmp, ← hgf, ← hcr]

/-- R187: the region closes with this bit. -/
def regionCloses (b : Level) (s : State) : Bool :=
  (regionCrc b s).st.ds.endp && decide ((regionClass b s).cnt.toNat < 5)

/-- The CRC engine leaves of an open region's destuffer what it was handed, but for the request of the region's end. -/
theorem regionCrc_ds (b : Level) {s : State} (h : s.ds.dsAct = true) : (regionCrc b s).st.ds = {
    dsAct := true
    cnt := (regionClass b s).cnt
    lv := (regionClass b s).lv
    endp := (regionCrc b s).st.ds.endp
    didx := s.ds.didx } := by
  rw [← h]
  exact (crcBit_ds _ _ _ _).trans (by rw [storeRun_ds]; rfl)

/-- R184, R186, R187: the destuffer after a region bit. -/
theorem regionBit_ds (n : Time) (b : Level) (sof : Bool) {s : State} (h : s.ds.dsAct = true) :
    (regionBit n b sof s).ds = {
      dsAct := !regionCloses b s
      cnt := (regionClass b s).cnt
      lv := (regionClass b s).lv
      endp := (regionCrc b s).st.ds.endp && !regionCloses b s
      didx := if (regionClass b s).data then sat 16 (s.ds.didx.toNat + 1) else s.ds.didx } := by
  have hcount : (countData (regionClass b s).data (regionCrc b s).st).ds = {
      dsAct := true
      cnt := (regionClass b s).cnt
      lv := (regionClass b s).lv
      endp := (regionCrc b s).st.ds.endp
      didx := if (regionClass b s).data then sat 16 (s.ds.didx.toNat + 1) else s.ds.didx } := by
    rw [countData_ds, regionCrc_ds b h]
    split <;> rfl
  have hcloses : regionCloses b s = true ↔
      (regionCrc b s).st.ds.endp = true ∧ (regionClass b s).cnt.toNat < Config.stuffRun.toNat := by
    rw [regionCloses, Bool.and_eq_true, decide_eq_true_eq]
    rfl
  simp only [regionBit, regionEnd_ds, emitCrcRecord_ds, emit_ds, hcount]
  simp only [← hcloses]
  cases regionCloses b s <;> simp

/-- R188: the BIT record of a region bit, then the CRC record of a comparison. -/
def regionRecords (n : Time) (b : Level) (sof : Bool) (s : State) : List Record :=
  mkRecord .bit (bitData (regionFlags b sof s)) (s.ds.didx.setWidth 32) n :: crcRecords n (regionCrc b s).record

theorem emitCrcRecord_queues (n : Time) (r : Option (BitVec 28 × Word)) {s : State}
    (hroom : s.evq.length ≤ s.params.evqDepth) : Queues (crcRecords n r) s (emitCrcRecord n r s) := by
  cases r with
  | none => exact .of_eq hroom rfl rfl rfl
  | some p => exact emit_queues _ _ _ _ hroom

theorem regionCrc_params (b : Level) (s : State) : (regionCrc b s).st.params = s.params :=
  ((storeRun_frame _ s).trans (crcBit_frame _ _ _ _)).params

theorem regionCrc_evq (b : Level) (s : State) : (regionCrc b s).st.evq = s.evq := by simp [regionCrc]

/-- R188, R311: the records of a region bit are queued after those already there. -/
theorem regionBit_queues (n : Time) (b : Level) (sof : Bool) {s : State} (hroom : s.evq.length ≤ s.params.evqDepth) :
    Queues (regionRecords n b sof s) (regionCrc b s).st (regionBit n b sof s) := by
  have hroom' : (regionCrc b s).st.evq.length ≤ (regionCrc b s).st.params.evqDepth := by
    rwa [regionCrc_evq, regionCrc_params]
  have hcount : Queues [] (regionCrc b s).st (countData (regionClass b s).data (regionCrc b s).st) :=
    .of_eq hroom' (countData_params _ _) (countData_evq _ _) (countData_sticky _ _)
  have hbit := hcount.trans
    (emit_queues .bit (bitData (regionFlags b sof s)) (s.ds.didx.setWidth 32) n hcount.length_le)
  have hcrc := hbit.trans (emitCrcRecord_queues n (regionCrc b s).record hbit.length_le)
  have hend := hcrc.trans (.of_eq hcrc.length_le (regionEnd_params _) (regionEnd_evq _) (regionEnd_sticky _))
  rwa [List.append_nil] at hend

/-- Settles O43: the parts of `regionBit` put together, and the records' words written out. -/
theorem regionBitsAreRecorded : Obligations.RegionBitsAreRecorded := by
  intro s t b sof
  refine ⟨fun h => ?_, fun hact => ?_⟩
  · rw [destuffBit_of_outside t b sof h, outsideBit, levelData_eq_ofNat]
  · intro c classified r closes new u
    have hu : u = regionBit t b sof s := destuffBit_of_open t b sof hact
    have hr : regionCrc b s = r := by rw [regionCrc, storeRun_eq]; rfl
    have hcloses : regionCloses b s = closes := by rw [regionCloses, hr]; rfl
    have hnew : regionRecords t b sof s = new := by
      rw [regionRecords, mkRecord_bit_eq, regionFlags, hr, ← BitVec.ofNat_toNat]
      cases hrec : r.record with
      | none => simp only [new, hrec]; rfl
      | some p => simp only [new, hrec, crcRecords, mkRecord_eq]; rfl
    refine ⟨?_, ?_, ?_⟩
    · have hfront := eq_of_stageFrame (regionBit_frame t b sof s) (regionBit_glitchCnt _ _ _ _) (regionBit_cmp _ _ _ _)
        (regionBit_gf _ _ _ _) (regionBit_cr _ _ _ _)
      rw [regionBit_crc, regionBit_rxcrc, regionBit_cc, regionBit_ds t b sof hact, hr, hcloses, ← hu] at hfront
      exact hfront
    · rw [hu, ← hr]
      exact regionBit_sticky t b sof s
    · intro hroom
      have hq := regionBit_queues t b sof hroom
      rw [hu, ← hnew, ← hr]
      refine ⟨?_, ?_⟩
      · rw [hq.evq, regionCrc_evq, regionCrc_params]
      · rw [hq.sticky, regionCrc_evq, regionCrc_params]
        rfl

/-! ### STUFF_ERR -/

theorem storeRun_stuffErr (c : BitClass) (s : State) :
    (storeRun c s).hasSticky .stuffErr = (s.hasSticky .stuffErr || c.serr) := by
  cases hc : c.serr with
  | false => rw [hasSticky_of_eq (s := s) (by simp [hc]), Bool.or_false]
  | true => exact hasSticky_of_or (b := .stuffErr) (by simp [hc]) .stuffErr

/-- The CRC engine does not set STUFF_ERR. -/
theorem CrcEffect.stuffErr {s t : State} (h : CrcEffect s t) : t.hasSticky .stuffErr = s.hasSticky .stuffErr := by
  cases h with
  | quiet _ _ hst => exact hasSticky_of_eq hst _
  | capture _ _ _ _ _ _ hst => exact hasSticky_of_eq hst _
  | compare _ _ _ _ _ hst =>
    rw [hasSticky_of_or hst]
    split <;> exact Bool.or_false _

/-- R183: a region bit sets STUFF_ERR by a violation only. -/
theorem regionBit_stuffErr (n : Time) (b : Level) (sof : Bool) (s : State) :
    (regionBit n b sof s).hasSticky .stuffErr = (s.hasSticky .stuffErr || (regionClass b s).serr) := by
  have hcrc : (regionCrc b s).st.hasSticky .stuffErr = (s.hasSticky .stuffErr || (regionClass b s).serr) :=
    (crcBit_effect _ _ _ _).stuffErr.trans (storeRun_stuffErr _ s)
  rcases regionBit_sticky n b sof s with h | h
  · rw [hasSticky_of_eq h, hcrc]
  · rw [hasSticky_of_or h, hcrc]
    exact Bool.or_false _

/-- Settles O42: the class of the bit is a violation, and with room the BIT record is the first one queued. -/
theorem sixthIdenticalBitIsAViolation : Obligations.SixthIdenticalBitIsAViolation := by
  intro s t b sof hact hcnt hb u
  have hu : u = regionBit t b sof s := destuffBit_of_open t b sof hact
  have hclass : regionClass b s = { data := true, stuff := false, serr := true, cnt := 1#3, lv := b } := by
    rw [regionClass, hcnt, classifyBit_of_slot, hb]
    simp
  rw [hu]
  refine ⟨?_, ?_, fun hroom => ?_⟩
  · have hset := regionBit_stuffErr t b sof s
    rwa [hclass, Bool.or_true] at hset
  · rw [regionBit_ds t b sof hact, hclass]
  · obtain ⟨rest, hevq⟩ := (regionBit_queues t b sof (Nat.le_of_lt hroom)).head
      (by rwa [regionCrc_evq, regionCrc_params])
    rw [regionCrc_evq] at hevq
    have haux : s.ds.didx.setWidth 32 = BitVec.ofNat 32 s.ds.didx.toNat := (BitVec.ofNat_toNat 32 s.ds.didx).symm
    refine ⟨_, rest, hevq, mkRecord_typeCode _ _ _ _, ?_, ?_, mkRecord_bitVal _ _ _, haux, rfl⟩
    · rw [mkRecord_bitSerr, regionFlags, hclass]
    · rw [mkRecord_bitStuff, regionFlags, hclass]

end Sys2Proof.Proofs

/-! ## The stuffing round trip -/

namespace Sys2Proof.Proofs

open Sys2Proof.Machine Sys2Proof.Laws

/-! ### The CRC field has room -/

/-- R216: the next `k` data bits do not end the CRC field. -/
def FieldRoom (k : Nat) (c : CrcControl) : Prop := FieldBit c → c.rxn.toNat + k < 15

/-- R214, R218: a stuff bit is at most fed. -/
theorem crcBit_of_stuff (b : Level) (stuff : Bool) (s : State) :
    (crcBit b false stuff s).record = none ∧ (crcBit b false stuff s).st.cc = s.cc ∧
      (crcBit b false stuff s).st.ds = s.ds := by
  have hno : ¬ ((crcCover b false stuff s).2.cc.crcph = .recv ∧ false = true) := fun h => absurd h.2 (by decide)
  refine ⟨by simp only [crcBit, if_neg hno], ?_, ?_⟩
  · rw [crcBit_st, if_neg hno]
    rcases crcCover_cases b false stuff s with ⟨-, -, h, -⟩ | ⟨h, -⟩
    · exact absurd h (by decide)
    · exact h
  · rw [crcBit_st, if_neg hno, crcCover_ds]

theorem crcCapture_record_of_ne (b : Level) (s : State) (h : s.cc.rxn ≠ 14#4) : (crcCapture b s).record = none := by
  have hne : s.cc.rxn + 1#4 ≠ Config.crcFieldLen := fun he => h (by simp only [Config.crcFieldLen] at he; bv_omega)
  simp only [crcCapture, if_neg hne]

/-- R217: a CRC record comes with the 15th bit of the CRC field. -/
theorem crcBit_record_of_ne (b : Level) (data stuff : Bool) (s : State) (h : FieldBit s.cc → s.cc.rxn ≠ 14#4) :
    (crcBit b data stuff s).record = none := by
  unfold crcBit
  dsimp only
  split
  · next hr =>
    refine crcCapture_record_of_ne b _ ?_
    rcases crcCover_cases b data stuff s with ⟨hph, hstop, -, he⟩ | ⟨hcc, -⟩
    · rw [he]
      exact h (.inr ⟨hph, hstop⟩)
    · rw [hcc] at hr ⊢
      exact h (.inl hr.1)
  · rfl

/-- R216, R217: short of the CRC field's end a bit uses up at most one place of the field, makes no CRC record and does not
request the region's end. -/
theorem crcBit_of_fieldRoom (b : Level) (data stuff : Bool) {k : Nat} {s : State}
    (h : FieldRoom (k + data.toNat) s.cc) :
    (crcBit b data stuff s).record = none ∧ FieldRoom k (crcBit b data stuff s).st.cc ∧
      (crcBit b data stuff s).st.ds = s.ds := by
  cases data with
  | false =>
    obtain ⟨hrec, hcc, hds⟩ := crcBit_of_stuff b stuff s
    exact ⟨hrec, by rwa [hcc], hds⟩
  | true =>
    have hroom : FieldBit s.cc → s.cc.rxn.toNat + k < 14 := fun hf => Nat.lt_of_succ_lt_succ (h hf)
    have hne : FieldBit s.cc → s.cc.rxn ≠ 14#4 := fun hf he => by
      have := hroom hf
      simp only [he, BitVec.toNat_ofNat] at this
      omega
    have hrec := crcBit_record_of_ne b true stuff s hne
    cases crcBit_effect b true stuff s with
    | quiet hcc hds =>
      exact ⟨hrec, fun hf => Nat.lt_succ_of_lt (by rw [hcc] at hf ⊢; exact hroom hf), hds⟩
    | capture hf _ _ hrxn _ hds =>
      have := hroom hf
      exact ⟨hrec, fun _ => by rw [hrxn]; bv_omega, hds⟩
    | compare hf hn => exact absurd hn (hne hf)

/-! ### A run of bits in an open region -/

/-- A region from which `w` is fed without its end: open, its end not requested, its CRC field longer than the data bits
of `w`. -/
structure StaysOpen (w : List Level) (s : State) : Prop where
  isOpen : s.ds.dsAct = true
  notEnding : s.ds.endp = false
  fieldRoom : FieldRoom (dataBits (classifyRun s.ds.cnt s.ds.lv w)).length s.cc

/-- R17, R182: the first bit counts among the data bits if its class says so; the rest goes on from the run it leaves. -/
theorem dataBits_classifyRun_cons (b : Level) (bs : List Level) (s : State) :
    (dataBits (classifyRun s.ds.cnt s.ds.lv (b :: bs))).length =
      (dataBits (classifyRun (regionClass b s).cnt (regionClass b s).lv bs)).length + (regionClass b s).data.toNat := by
  cases hd : (regionClass b s).data <;> rw [regionClass] at hd <;> simp [dataBits, classifyRun, hd, regionClass]

/-- The state after a region bit that does not end the region. -/
theorem destuffBit_of_staysOpen {b : Level} {bs : List Level} {s : State} (h : StaysOpen (b :: bs) s) (n : Time)
    (sof : Bool) : StaysOpen bs (destuffBit n b sof s) ∧ (destuffBit n b sof s).ds.cnt = (regionClass b s).cnt ∧
      (destuffBit n b sof s).ds.lv = (regionClass b s).lv ∧ (regionCrc b s).record = none := by
  have hfield := h.fieldRoom
  rw [dataBits_classifyRun_cons, ← storeRun_cc (regionClass b s) s] at hfield
  obtain ⟨hrec, hcc, hkeep⟩ := crcBit_of_fieldRoom b _ (regionClass b s).stuff hfield
  have hend : (regionCrc b s).st.ds.endp = false := by rw [regionCrc, hkeep, storeRun_ds, h.notEnding]
  have hcloses : regionCloses b s = false := by rw [regionCloses, hend, Bool.false_and]
  rw [destuffBit_of_open n b sof h.isOpen]
  have hds := regionBit_ds n b sof h.isOpen
  rw [hcloses, hend] at hds
  refine ⟨⟨by rw [hds]; rfl, by rw [hds]; rfl, ?_⟩, by rw [hds], by rw [hds], hrec⟩
  rw [hds, regionBit_cc]
  exact hcc

/-- What a BIT record shows: VAL, STUFF, SERR. -/
def recordMarks (r : Record) : Level × Bool × Bool := (r.bitVal, r.bitStuff, r.bitSerr)

/-- R188: with room for its record a bit that does not end the region queues that one record, which shows its class. -/
theorem destuffBit_evq_of_staysOpen {b : Level} {bs : List Level} {s : State} (h : StaysOpen (b :: bs) s) (n : Time)
    (sof : Bool) (hroom : s.evq.length < s.params.evqDepth) :
    ∃ r, (destuffBit n b sof s).evq = s.evq ++ [r] ∧ recordMarks r = classMarks (b, regionClass b s) := by
  obtain ⟨-, -, -, hrec⟩ := destuffBit_of_staysOpen h n sof
  have hq := (regionBit_queues n b sof (Nat.le_of_lt hroom)).evq
  rw [regionRecords, hrec, regionCrc_evq, regionCrc_params, crcRecords,
    List.take_of_length_le (by simpa using hroom), ← destuffBit_of_open n b sof h.isOpen] at hq
  refine ⟨_, hq, ?_⟩
  simp [recordMarks, regionFlags, classMarks]

/-- R183, R188: the BIT records of a run of bits that does not end its region show the classes of the bits, and STUFF_ERR is
set by the violations among them. -/
theorem runDestuffer_of_staysOpen {w : List Level} {s : State} (h : StaysOpen w s) (n : Time) (sof : Bool)
    (hroom : s.evq.length + w.length ≤ s.params.evqDepth) :
    ∃ new, (runDestuffer n w sof s).evq = s.evq ++ new ∧
      new.map recordMarks = (classifyRun s.ds.cnt s.ds.lv w).map classMarks ∧
      (runDestuffer n w sof s).hasSticky .stuffErr =
        (s.hasSticky .stuffErr || new.any Record.bitSerr) := by
  induction w generalizing n sof s with
  | nil => exact ⟨[], by simp [runDestuffer], rfl, by simp [runDestuffer]⟩
  | cons b bs ih =>
    rw [List.length_cons] at hroom
    obtain ⟨hstays, hcnt, hlv, -⟩ := destuffBit_of_staysOpen h n sof
    obtain ⟨r, hr, hmarks⟩ := destuffBit_evq_of_staysOpen h n sof (by omega)
    have hparams := (destuffBit_frame n b sof s).params
    obtain ⟨new, hnew, hclass, hsticky⟩ := ih hstays (n + 1#64) false (by
      rw [hr, hparams, List.length_append, List.length_singleton]
      omega)
    have hbit := regionBit_stuffErr n b sof s
    rw [← destuffBit_of_open n b sof h.isOpen] at hbit
    have hserr : r.bitSerr = (regionClass b s).serr := congrArg (fun m => m.2.2) hmarks
    rw [hcnt, hlv] at hclass
    refine ⟨r :: new, ?_, ?_, ?_⟩
    · rw [runDestuffer, hnew, hr, List.append_assoc, List.singleton_append]
    · rw [List.map_cons, hmarks, hclass]
      rfl
    · rw [runDestuffer, hsticky, hbit, Bool.or_assoc, List.any_cons, hserr]

/-- Settles O44: the records show the classes of the stuffed bits, and those are the transmitter's marks. -/
theorem stuffingRoundTrip : Obligations.StuffingRoundTrip := by
  intro bits s t hact hcnt hend hfield hroom u
  have hdata := dataBits_stuff s.ds.lv bits
  have hmarks := classifyRun_stuff s.ds.lv bits
  have hopen : StaysOpen (stuff bits) s := ⟨hact, hend, by rw [hcnt, hdata]; exact hfield⟩
  obtain ⟨new, hnew, hclass, hsticky⟩ := runDestuffer_of_staysOpen hopen t true hroom
  rw [hcnt, hmarks] at hclass
  have hshown : new.map (fun r => (r.bitVal, r.bitStuff)) = stuffMarked bits := by
    have := congrArg (List.map fun m => (m.1, m.2.1)) hclass
    rw [List.map_map, List.map_map] at this
    exact this.trans (List.map_id _)
  have hclean : ∀ r ∈ new, r.bitSerr = false := fun r hr => by
    have hmem : recordMarks r ∈ (stuffMarked bits).map sentMarks := hclass ▸ List.mem_map_of_mem hr
    obtain ⟨m, -, hm⟩ := List.mem_map.mp hmem
    exact (congrArg (fun m => m.2.2) hm).symm
  have hunmarked : (new.filter fun r => !r.bitStuff).map Record.bitVal = bits := by
    have := stuffMarkedFrom_unmarked bits 0 none
    rwa [← stuffMarked, ← hshown, List.filter_map, List.map_map] at this
  have hnone : new.any Record.bitSerr = false := List.any_eq_false.mpr fun r hr => by simp [hclean r hr]
  rw [hnone, Bool.or_false] at hsticky
  exact ⟨new, hnew, hshown, hunmarked, hclean, hsticky⟩

end Sys2Proof.Proofs

/-! ## The CRC shift -/

namespace Sys2Proof.Proofs

open Sys2Proof.Machine

/-! ### The shift and its feedback -/

/-- R211: the shift adds the feedback bit's multiple of the polynomial. -/
theorem crcStep_eq (c : BitVec 15) (b : Bool) :
    crcStep c b = c <<< 1 ^^^ (if b ^^ c.getLsbD 14 then Config.poly else 0#15) := by
  unfold crcStep
  cases b ^^ c.getLsbD 14 <;> simp

theorem shiftLeft_one_eq_ofNat (c : BitVec 15) : c <<< 1 = BitVec.ofNat 15 (2 * c.toNat) := by
  rw [BitVec.ofNat_mul, BitVec.ofNat_toNat, BitVec.setWidth_eq, BitVec.shiftLeft_eq_mul_twoPow, mul_comm]
  rfl

/-- The polynomial is odd, so bit 0 after a shift is the feedback bit. -/
theorem crcStep_getLsbD_zero (c : BitVec 15) (b : Bool) : (crcStep c b).getLsbD 0 = (b ^^ c.getLsbD 14) := by
  rw [crcStep_eq, BitVec.getLsbD_xor]
  cases b ^^ c.getLsbD 14 <;> simp [Config.poly]

/-- A bit equal to the top bit of the register is shifted in without feedback. -/
theorem crcStep_topBit (c : BitVec 15) : crcStep c (c.getLsbD 14) = c <<< 1 := by
  simp [crcStep_eq]

/-! ### A flipped bit -/

theorem crcStep_left_injective (b : Bool) : Function.Injective (crcStep · b) := by
  intro c d h
  have htop : c.getLsbD 14 = d.getLsbD 14 := by
    have h0 := congrArg (·.getLsbD 0) h
    simp only [crcStep_getLsbD_zero] at h0
    exact Bool.xor_right_inj.mp h0
  have hshift : c <<< 1 = d <<< 1 := by
    simp only [crcStep_eq, htop] at h
    exact (BitVec.xor_left_inj _).mp h
  refine BitVec.eq_of_getElem_eq fun i hi => ?_
  rcases Nat.lt_or_ge i 14 with hlt | hge
  · have hsucc : i + 1 < 15 := by omega
    simpa [BitVec.getLsbD_shiftLeft, hsucc] using congrArg (·.getLsbD (i + 1)) hshift
  · obtain rfl : i = 14 := by omega
    exact htop

theorem foldl_crcStep_injective (s : List Bool) : Function.Injective (s.foldl crcStep) := by
  induction s with
  | nil => exact Function.injective_id
  | cons b s ih => exact ih.comp (crcStep_left_injective b)

/-- Settles O47: the flipped bit flips the feedback bit of its shift, and every later shift is injective. -/
theorem crcDetectsASingleFlippedBit : Obligations.CrcDetectsASingleFlippedBit := by
  intro a b x h
  simp only [crc15, List.foldl_append, List.foldl_cons] at h
  have h0 := congrArg (·.getLsbD 0) (foldl_crcStep_injective b h)
  simp only [crcStep_getLsbD_zero] at h0
  exact absurd (Bool.xor_left_inj.mp h0) (by simp)

/-! ### Linearity and the residue -/

theorem crcStep_xor (c d : BitVec 15) (x y : Bool) :
    crcStep (c ^^^ d) (x ^^ y) = crcStep c x ^^^ crcStep d y := by
  have hmul : ∀ p q : Bool, (if p ^^ q then Config.poly else 0#15) =
      (if p then Config.poly else 0#15) ^^^ (if q then Config.poly else 0#15) := by decide
  have hfeedback : ((x ^^ y) ^^ (c ^^^ d).getLsbD 14) = ((x ^^ c.getLsbD 14) ^^ (y ^^ d.getLsbD 14)) := by
    rw [BitVec.getLsbD_xor, Bool.xor_assoc, Bool.xor_left_comm y, ← Bool.xor_assoc]
  rw [crcStep_eq, crcStep_eq, crcStep_eq, hfeedback, hmul, BitVec.shiftLeft_xor_distrib]
  ac_rfl

theorem foldl_crcStep_xor (a b : List Bool) (h : a.length = b.length) (c d : BitVec 15) :
    (List.zipWith xor a b).foldl crcStep (c ^^^ d) = a.foldl crcStep c ^^^ b.foldl crcStep d := by
  induction a generalizing b c d with
  | nil => rw [List.length_eq_zero_iff.mp h.symm]; rfl
  | cons x a ih =>
    cases b with
    | nil => simp at h
    | cons y b =>
      rw [List.zipWith_cons_cons, List.foldl_cons, crcStep_xor]
      exact ih b (Nat.succ.inj h) _ _

theorem foldl_crcStep_replicate_false (k : Nat) : (List.replicate k false).foldl crcStep 0#15 = 0#15 := by
  induction k with
  | zero => rfl
  | succ k ih => exact ih

/-- The register's own bits, most significant first, shift it out. -/
theorem foldl_crcStep_topBits (c : BitVec 15) {k : Nat} (h : k ≤ 15) :
    ((List.range k).map fun i => c.getLsbD (14 - i)).foldl crcStep c = c <<< k := by
  induction k with
  | zero => simp
  | succ k ih =>
    have htop : c.getLsbD (14 - k) = (c <<< k).getLsbD 14 := by
      have hk : ¬ 14 < k := by omega
      simp only [BitVec.getLsbD_shiftLeft, hk, decide_false, Bool.not_false, Bool.and_true]
      rfl
    rw [List.range_succ, List.map_append, List.foldl_append, ih (by omega)]
    simp only [List.map_cons, List.map_nil, List.foldl_cons, List.foldl_nil]
    rw [htop, crcStep_topBit, BitVec.shiftLeft_add]

/-- Settles O46: both lists are shifted in step, zeros leave 0, and the CRC's own bits shift it out. -/
theorem crcIsLinearWithZeroResidue : Obligations.CrcIsLinearWithZeroResidue := by
  refine ⟨fun a b h => foldl_crcStep_xor a b h 0#15 0#15, fun k s => ?_, fun s => ?_⟩
  · rw [crc15, List.foldl_append, foldl_crcStep_replicate_false, crc15]
  · rw [crc15, List.foldl_append]
    exact (foldl_crcStep_topBits (crc15 s) (Nat.le_refl 15)).trans (BitVec.shiftLeft_eq_zero (Nat.le_refl 15))

end Sys2Proof.Proofs

/-! ## The CRC as a remainder -/

namespace Sys2Proof.Proofs

open Sys2Proof.Machine Polynomial

/-! ### Registers and messages as polynomials -/

/-- R210: the generator G. -/
noncomputable def crcGenerator : (ZMod 2)[X] := X ^ 15 + X ^ 14 + X ^ 10 + X ^ 8 + X ^ 7 + X ^ 4 + X ^ 3 + 1

/-- The polynomial with the bits of the register as coefficients. -/
noncomputable def registerPoly (c : BitVec 15) : (ZMod 2)[X] :=
  ∑ i ∈ Finset.range 15, if c.getLsbD i then X ^ i else 0

/-- R211: the message times x^15. -/
noncomputable def messagePoly (s : List Bool) : (ZMod 2)[X] :=
  ∑ i ∈ Finset.range s.length, if s[i]? = some true then X ^ (s.length - 1 - i + 15) else 0

/-- Over GF(2) a multiple by an exclusive or is the sum of the multiples. -/
theorem ite_xor_eq_add (p : (ZMod 2)[X]) (a b : Bool) :
    (if a ^^ b then p else 0) = (if a then p else 0) + (if b then p else 0) := by
  cases a <;> cases b <;> simp [CharTwo.add_self_eq_zero]

theorem registerPoly_xor (c d : BitVec 15) : registerPoly (c ^^^ d) = registerPoly c + registerPoly d := by
  simp only [registerPoly, BitVec.getLsbD_xor, ite_xor_eq_add, Finset.sum_add_distrib]

theorem registerPoly_zero : registerPoly 0#15 = 0 := by simp [registerPoly]

/-- R210: the low part of G. -/
theorem registerPoly_poly : registerPoly Config.poly + X ^ 15 = crcGenerator := by
  have hbits : {i ∈ Finset.range 15 | Config.poly.getLsbD i = true} = {14, 10, 8, 7, 4, 3, 0} := by decide
  rw [registerPoly, ← Finset.sum_filter, hbits, crcGenerator]
  iterate 6 rw [Finset.sum_insert (by decide)]
  rw [Finset.sum_singleton]
  ring

/-- The bit shifted out at the top is x^15. -/
theorem X_mul_registerPoly (c : BitVec 15) :
    X * registerPoly c = registerPoly (c <<< 1) + if c.getLsbD 14 then X ^ 15 else 0 := by
  have hlow : registerPoly (c <<< 1) = ∑ i ∈ Finset.range 14, if c.getLsbD i then X ^ (i + 1) else 0 := by
    rw [registerPoly, Finset.sum_range_succ']
    simp only [BitVec.getLsbD_shiftLeft]
    refine (add_eq_left.mpr (by simp)).trans (Finset.sum_congr rfl fun i hi => ?_)
    have hsucc : i + 1 < 15 := Nat.succ_lt_succ (Finset.mem_range.mp hi)
    simp [hsucc]
  rw [hlow, registerPoly, Finset.mul_sum, Finset.sum_range_succ]
  simp only [mul_ite, mul_zero, ← pow_succ']

/-- R211: a shift multiplies by x, adds the bit times x^15, and takes out G where the feedback bit is 1. -/
theorem registerPoly_crcStep (c : BitVec 15) (b : Bool) :
    X * registerPoly c + (if b then X ^ 15 else 0) =
      (if b ^^ c.getLsbD 14 then crcGenerator else 0) + registerPoly (crcStep c b) := by
  have hfeedback : (if b ^^ c.getLsbD 14 then X ^ 15 else 0) =
      (if b ^^ c.getLsbD 14 then crcGenerator else 0) +
        registerPoly (if b ^^ c.getLsbD 14 then Config.poly else 0#15) := by
    cases b ^^ c.getLsbD 14
    · simp [registerPoly_zero]
    · simp only [if_true, ← registerPoly_poly]
      rw [add_right_comm, CharTwo.add_self_eq_zero, zero_add]
  rw [X_mul_registerPoly, crcStep_eq, registerPoly_xor, add_assoc, add_comm (ite _ _ _), ← ite_xor_eq_add, hfeedback]
  exact add_left_comm _ _ _

/-! ### The remainder -/

/-- One more bit: the message is multiplied by x. -/
theorem messagePoly_concat (s : List Bool) (b : Bool) :
    messagePoly (s ++ [b]) = X * messagePoly s + if b then X ^ 15 else 0 := by
  rw [messagePoly, List.length_append, List.length_singleton, Finset.sum_range_succ, messagePoly, Finset.mul_sum]
  congr 1
  · refine Finset.sum_congr rfl fun i hi => ?_
    have hi := Finset.mem_range.mp hi
    rw [List.getElem?_append_left hi, mul_ite, mul_zero, ← pow_succ',
      show s.length + 1 - 1 - i + 15 = s.length - 1 - i + 15 + 1 by omega]
  · simp

/-- R211: the register holds the message times x^15 up to a multiple of G. -/
theorem messagePoly_eq (s : List Bool) :
    ∃ q, messagePoly s = q * crcGenerator + registerPoly (crc15 s) := by
  induction s using List.reverseRecOn with
  | nil => exact ⟨0, by simp [messagePoly, crc15, registerPoly_zero]⟩
  | append_singleton s b ih =>
    obtain ⟨q, hq⟩ := ih
    have hstep := registerPoly_crcStep (crc15 s) b
    have hcrc : crc15 (s ++ [b]) = crcStep (crc15 s) b := List.foldl_concat ..
    refine ⟨X * q + if b ^^ (crc15 s).getLsbD 14 then 1 else 0, ?_⟩
    rw [messagePoly_concat, hq, hcrc, mul_add, add_assoc, hstep, add_mul, ite_mul, one_mul, zero_mul]
    ring

/-- Settles O45: each shift multiplies by x and takes out a multiple of G. -/
theorem crcIsThePolynomialRemainder : Obligations.CrcIsThePolynomialRemainder := by
  refine ⟨fun c b => ?_, messagePoly_eq⟩
  rw [BitVec.ofNat_xor, ← shiftLeft_one_eq_ofNat, crcStep_eq]
  cases b <;> cases c.getLsbD 14 <;> rfl

end Sys2Proof.Proofs

/-! ## The CRC engine -/

namespace Sys2Proof.Proofs

open Sys2Proof.Machine Sys2Proof.Laws

/-! ### The bits that are fed -/

/-- R213, R214: a covered bit is fed as the mode says, unless it is the first data bit after CRC_STOP. -/
theorem crcBit_of_cover (b : Level) {data stuff : Bool} {s : State} (hph : s.cc.crcph = .cover)
    (hstop : ¬ (s.cc.stopp = true ∧ data = true)) :
    crcBit b data stuff s =
      { crcf := data || (stuff && !s.ctrl.crcm), crcb := false, record := none,
        st := { s with crc := if data || (stuff && !s.ctrl.crcm) then crcStep s.crc b.bit else s.crc } } := by
  have hcover : crcCover b data stuff s = (data || (stuff && !s.ctrl.crcm),
      { s with crc := if data || (stuff && !s.ctrl.crcm) then crcStep s.crc b.bit else s.crc }) := by
    have hne : ¬ (s.cc.stopp && data) = true := by rwa [Bool.and_eq_true]
    rw [crcCover, if_pos hph, if_neg hne, Bool.and_comm stuff]
    cases data || (!s.ctrl.crcm && stuff) <;> rfl
  simp [crcBit, hcover, hph]

/-- R214: the first data bit after CRC_STOP ends the coverage. -/
theorem crcCover_of_stopp (b : Level) (stuff : Bool) {s : State} (hph : s.cc.crcph = .cover)
    (hstop : s.cc.stopp = true) :
    crcCover b true stuff s = (false, { s with cc := { s.cc with crcph := .recv, stopp := false } }) := by
  simp [crcCover, hph, hstop]

theorem crcCover_of_ne (b : Level) (data stuff : Bool) {s : State} (hph : s.cc.crcph ≠ .cover) :
    crcCover b data stuff s = (false, s) := if_neg hph

/-- R218: without coverage or capture a bit has no effect. -/
theorem crcBit_of_quiet (b : Level) {data : Bool} (stuff : Bool) {s : State} (hph : s.cc.crcph ≠ .cover)
    (hrecv : ¬ (s.cc.crcph = .recv ∧ data = true)) :
    crcBit b data stuff s = { crcf := false, crcb := false, record := none, st := s } := by
  rw [crcBit, crcCover_of_ne b data stuff hph]
  exact if_neg hrecv

/-- Settles O48: covered bits, the bit that ends the coverage, and the bits that are neither covered nor captured. -/
theorem coverageFollowsTheMode : Obligations.CoverageFollowsTheMode := by
  intro s b data stuff _
  refine ⟨fun hph hstop => crcBit_of_cover b hph hstop, fun hph hstop hdata => ?_, fun hquiet => ?_⟩
  · rw [hdata, crcBit, crcBit, crcCover_of_stopp b stuff hph hstop, crcCover_of_ne _ _ _ (by simp)]
  · rcases hquiet with ⟨hph, hdata⟩ | hph | hph
    · exact crcBit_of_quiet b stuff (by simp [hph]) (by simp [hdata])
    · exact crcBit_of_quiet b stuff (by simp [hph]) (by simp [hph])
    · exact crcBit_of_quiet b stuff (by simp [hph]) (by simp [hph])

/-! ### The CRC field -/

/-- R216: one bit shifted into the received field. -/
theorem captureShift_eq_ofNat (rx : BitVec 15) (b : Bool) :
    rx <<< 1 ||| (BitVec.ofBool b).setWidth 15 = BitVec.ofNat 15 (2 * rx.toNat + b.toNat) := by
  have hor : 2 * rx.toNat + b.toNat = 2 * rx.toNat ||| b.toNat := by
    have h := Nat.shiftLeft_add_eq_or_of_lt (i := 1) (Bool.toNat_lt b) rx.toNat
    rwa [Nat.shiftLeft_eq, Nat.mul_comm] at h
  rw [hor, BitVec.ofNat_or, ← shiftLeft_one_eq_ofNat]
  cases b <;> rfl

/-- R108: the data of a CRC record as a sum. -/
theorem crcData_eq_ofNat (c : BitVec 15) (err : Bool) :
    crcData c err = BitVec.ofNat 28 (c.toNat + if err then 2 ^ 15 else 0) := by
  have hval : (BitVec.ofBool err ++ c).toNat = c.toNat + if err then 2 ^ 15 else 0 := by
    rw [BitVec.toNat_append, ← Nat.shiftLeft_add_eq_or_of_lt c.isLt, Nat.add_comm]
    cases err <;> rfl
  rw [crcData, ← hval, BitVec.ofNat_toNat]

/-- R214, R216: a data bit in RECV is captured. -/
theorem crcBit_of_recv (b : Level) (stuff : Bool) {s : State} (hph : s.cc.crcph = .recv) :
    crcBit b true stuff s = { crcCapture b s with crcf := false } := by
  rw [crcBit, crcCover_of_ne b true stuff (by simp [hph])]
  exact if_pos ⟨hph, rfl⟩

/-- R216: a capture answers with CRCB, and with a record if it is compared. -/
theorem crcCapture_eq (b : Level) (s : State) : crcCapture b s =
    { crcf := false, crcb := true, record := (crcCapture b s).record, st := (crcCapture b s).st } := by
  unfold crcCapture
  dsimp only
  split <;> rfl

theorem crcCapture_record_of_eq (b : Level) (s : State) (h : s.cc.rxn = 14#4) : (crcCapture b s).record =
    (crcCompare { s with
      rxcrc := (s.rxcrc <<< 1) ||| (BitVec.ofBool b.bit).setWidth 15
      cc := { s.cc with rxn := s.cc.rxn + 1#4 } }).record := by
  have he : s.cc.rxn + 1#4 = Config.crcFieldLen := by rw [h]; rfl
  simp only [crcCapture, if_pos he]

/-- R217: `compare` written out, by whether the received field is the computed CRC. -/
theorem crcCompare_eq (s : State) : crcCompare s =
    { crcf := false
      crcb := true
      record := some (BitVec.ofNat 28 (s.crc.toNat + if s.rxcrc = s.crc then 0 else 2 ^ 15),
        BitVec.ofNat 32 s.rxcrc.toNat)
      st := { s with
        sticky := s.sticky ||| (if s.rxcrc = s.crc then 0b010000000#9 else 0b001000000#9)
        cc := { s.cc with crcph := .done }
        ds := { s.ds with endp := true } } } := by
  by_cases h : s.rxcrc = s.crc
  · have herr : decide (s.rxcrc ≠ s.crc) = false := by simp [h]
    simp only [crcCompare, herr, crcData_eq_ofNat, if_pos h, ← BitVec.ofNat_toNat]
    rfl
  · have herr : decide (s.rxcrc ≠ s.crc) = true := by simp [h]
    simp only [crcCompare, herr, crcData_eq_ofNat, if_neg h, ← BitVec.ofNat_toNat]
    rfl

/-- Settles O49: a captured bit counts, and the 15th is compared. -/
theorem captureAndCompare : Obligations.CaptureAndCompare := by
  intro s b hph rx captured
  have hrx : s.rxcrc <<< 1 ||| (BitVec.ofBool b.bit).setWidth 15 = rx := captureShift_eq_ofNat _ _
  rw [crcBit_of_recv b false hph, crcCapture_eq]
  refine ⟨fun hne => ?_, fun heq => ?_⟩
  · rw [crcCapture_record_of_ne b s hne, crcCapture_of_ne b s hne, hrx]
  · rw [crcCapture_record_of_eq b s heq, crcCapture_of_eq b s heq, hrx, crcCompare_eq, heq]
    rfl

/-! ### Coverage up to CRC_STOP -/

/-- A region under coverage, with no end requested and no CRC_STOP pending. -/
structure Covered (s : State) : Prop where
  isOpen : s.ds.dsAct = true
  notEnding : s.ds.endp = false
  cover : s.cc.crcph = .cover
  noStop : s.cc.stopp = false

/-- The CRC field has not begun, so no bits end it. -/
theorem Covered.staysOpen {s : State} (h : Covered s) (w : List Level) : StaysOpen w s :=
  ⟨h.isOpen, h.notEnding, fun hf => by simp [FieldBit, h.cover, h.noStop] at hf⟩

/-- R213: the bits among `w` that mode CRCM feeds, from a run `cnt` of level `lv` on. -/
def fedBits (crcm : Bool) (cnt : BitVec 3) (lv : Level) (w : List Level) : List Level :=
  if crcm then dataBits (classifyRun cnt lv w) else w

theorem fedBits_cons (crcm : Bool) (b : Level) (bs : List Level) (s : State) :
    fedBits crcm s.ds.cnt s.ds.lv (b :: bs) =
      (if (regionClass b s).data || !crcm then [b] else []) ++
        fedBits crcm (regionClass b s).cnt (regionClass b s).lv bs := by
  cases crcm with
  | false => simp [fedBits]
  | true =>
    unfold regionClass
    cases hd : (classifyBit s.ds.cnt s.ds.lv b).data <;> simp [fedBits, dataBits, classifyRun, hd]

/-- R182, R213: a region bit is fed in mode CRCM = 0, and in mode CRCM = 1 if it is a data bit. -/
theorem regionCrc_of_covered (b : Level) {s : State} (h : Covered s) :
    (regionCrc b s).st.cc = s.cc ∧
    (regionCrc b s).st.crc = if (regionClass b s).data || !s.ctrl.crcm then crcStep s.crc b.bit else s.crc := by
  have hclass : (regionClass b s).data = !(regionClass b s).stuff := classifyBit_data _ _ _
  rw [regionCrc, crcBit_of_cover b (by simpa using h.cover) (by simp [h.noStop]), hclass]
  refine ⟨by simp, ?_⟩
  cases (regionClass b s).stuff <;> simp

theorem destuffBit_of_covered (n : Time) (b : Level) (sof : Bool) {s : State} (h : Covered s) :
    Covered (destuffBit n b sof s) ∧ (destuffBit n b sof s).ds.cnt = (regionClass b s).cnt ∧
      (destuffBit n b sof s).ds.lv = (regionClass b s).lv ∧
      (destuffBit n b sof s).crc =
        if (regionClass b s).data || !s.ctrl.crcm then crcStep s.crc b.bit else s.crc := by
  obtain ⟨hcc, hcrc⟩ := regionCrc_of_covered b h
  obtain ⟨hopen, hcnt, hlv, -⟩ := destuffBit_of_staysOpen (h.staysOpen [b]) n sof
  have hcc' : (destuffBit n b sof s).cc = s.cc := by rw [destuffBit_of_open n b sof h.isOpen, regionBit_cc, hcc]
  refine ⟨⟨hopen.isOpen, hopen.notEnding, ?_, ?_⟩, hcnt, hlv, ?_⟩
  · rw [hcc', h.cover]
  · rw [hcc', h.noStop]
  · rw [destuffBit_of_open n b sof h.isOpen, regionBit_crc, hcrc]

/-- R213, R221: the fed bits are folded into CRC one by one. -/
theorem runDestuffer_crc_of_covered (w : List Level) (n : Time) (sof : Bool) {s : State} (h : Covered s) :
    (runDestuffer n w sof s).crc =
      ((fedBits s.ctrl.crcm s.ds.cnt s.ds.lv w).map Level.bit).foldl crcStep s.crc := by
  induction w generalizing n sof s with
  | nil => cases hm : s.ctrl.crcm <;> rfl
  | cons b bs ih =>
    obtain ⟨hcov, hcnt, hlv, hcrc⟩ := destuffBit_of_covered n b sof h
    have hctrl := (destuffBit_frame n b sof s).ctrl
    rw [runDestuffer, ih (n + 1#64) false hcov, hctrl, hcnt, hlv, hcrc, fedBits_cons]
    cases (regionClass b s).data || !s.ctrl.crcm <;> rfl

/-- Settles O50: the opened region is covered, and its fed bits are folded from 0. -/
theorem crcCoversTheFrame : Obligations.CrcCoversTheFrame := by
  intro w s t hact hcnt hend hph hstop hcrc
  have hrun := runDestuffer_crc_of_covered w t true (s := s) ⟨hact, hend, hph, hstop⟩
  rwa [hcnt, hcrc] at hrun

end Sys2Proof.Proofs

/-! ## The layouts that reads return -/

namespace Sys2Proof.Proofs

open Sys2Proof.Machine Sys2Proof.Safety Sys2Proof.Laws

/-! ### Flags and fields of a word -/

theorem getLsbD_flagAt (b : Bool) {pos k : Nat} (hpos : pos < 32) :
    (flagAt b pos).getLsbD k = (decide (k = pos) && b) := by
  rw [flagAt, BitVec.getLsbD_shiftLeft, BitVec.getLsbD_setWidth, BitVec.getLsbD_ofBool]
  rcases lt_trichotomy k pos with h | rfl | h
  · simp [h, h.ne]
  · simp [hpos]
  · simp [h.ne', Nat.sub_ne_zero_of_lt h]

/-- The bound `_hhi` holds this lemma to the field's own bits: it and `getLsbD_fieldAt_of_outside` never both apply. -/
theorem getLsbD_fieldAt {n pos k : Nat} (x : BitVec n) (hlo : pos ≤ k) (_hhi : k < pos + n) (hk : k < 32) :
    (fieldAt x pos).getLsbD k = x.getLsbD (k - pos) := by
  rw [fieldAt, BitVec.getLsbD_shiftLeft, BitVec.getLsbD_setWidth]
  simp [hk, Nat.not_lt.mpr hlo, show k - pos < 32 by omega]

theorem getLsbD_fieldAt_of_outside {n pos k : Nat} (x : BitVec n) (hk : k < pos ∨ pos + n ≤ k) :
    (fieldAt x pos).getLsbD k = false := by
  rw [fieldAt, BitVec.getLsbD_shiftLeft, BitVec.getLsbD_setWidth]
  rcases hk with hk | hk
  · simp [hk]
  · simp [BitVec.getLsbD_of_ge x (k - pos) (by omega)]

theorem fieldAt_zero {n : Nat} (x : BitVec n) : fieldAt x 0 = BitVec.ofNat 32 x.toNat := by
  rw [fieldAt, BitVec.shiftLeft_zero, BitVec.ofNat_toNat]

theorem extractLsb'_eq_of_getLsbD {w : Word} {pos n : Nat} {x : BitVec n}
    (h : ∀ i < n, w.getLsbD (pos + i) = x.getLsbD i) : w.extractLsb' pos n = x :=
  BitVec.eq_of_getLsbD_eq fun i hi => by simp [h i hi, hi]

/-- R13: a level's bit. -/
theorem level_bit_eq (l : Level) : l.bit = decide (l = .recessive) := by cases l <;> rfl

/-- R41: the mode's bit. -/
theorem syncMode_bit_eq (m : SyncMode) : m.bit = decide (m = .sync) := by cases m <;> rfl

/-! ### The register words -/

/-- R243: the five flags of CTRL do not overlap. -/
theorem ctrlWord_eq (c : Ctrl) : ctrlWord c = BitVec.ofNat 32
    (c.en.toNat + 2 * c.single.toNat + 4 * c.inv.toNat + 8 * c.crcm.toNat + 16 * c.levev.toNat) := by
  obtain ⟨en, single, inv, crcm, levev⟩ := c
  revert en single inv crcm levev
  decide

/-- R95: PH below BLEN. -/
theorem crstateWord_eq (s : State) : crstateWord s = BitVec.ofNat 32 (s.cr.ph.toNat + 2 ^ 16 * s.cr.blen.toNat) := by
  have hph := s.cr.ph.isLt
  have hblen := s.cr.blen.isLt
  have hhigh : s.cr.blen.toNat <<< 16 < 2 ^ 32 := by rw [Nat.shiftLeft_eq]; omega
  apply BitVec.eq_of_toNat_eq
  calc (crstateWord s).toNat
    _ = s.cr.ph.toNat ||| s.cr.blen.toNat <<< 16 := by
      rw [crstateWord, fieldAt_zero, fieldAt, BitVec.toNat_or, BitVec.toNat_shiftLeft, BitVec.toNat_setWidth,
        BitVec.toNat_ofNat, Nat.mod_eq_of_lt (a := s.cr.ph.toNat) (by omega),
        Nat.mod_eq_of_lt (a := s.cr.blen.toNat) (by omega), Nat.mod_eq_of_lt hhigh]
    _ = s.cr.blen.toNat <<< 16 + s.cr.ph.toNat := by rw [Nat.or_comm, Nat.shiftLeft_add_eq_or_of_lt hph]
    _ = _ := by rw [BitVec.toNat_ofNat, Nat.shiftLeft_eq]; omega

/-- R86: a bit of STATUS, each live bit at its position above the sticky field. -/
theorem getLsbD_statusWord (s : State) (k : Nat) : (statusWord s).getLsbD k =
    ((fieldAt s.sticky 0).getLsbD k || decide (k = 16) && decide (s.cmp.lvl = .recessive) ||
      decide (k = 17) && decide (s.gf.flt = .recessive) || decide (k = 18) && decide (s.cr.crm = .sync) ||
      decide (k = 19) && s.ds.dsAct || decide (k = 20) && decide (s.cc.crcph = .cover) ||
      decide (k = 21) && decide (s.evq ≠ [])) := by
  simp [statusWord, getLsbD_flagAt, level_bit_eq, syncMode_bit_eq, List.length_pos_iff]

theorem getLsbD_statusWord_sticky (s : State) {k : Nat} (hk : k < 9) :
    (statusWord s).getLsbD k = s.sticky.getLsbD k := by
  rw [getLsbD_statusWord, getLsbD_fieldAt _ (Nat.zero_le k) (by omega) (by omega)]
  simp [show k ≠ 16 ∧ k ≠ 17 ∧ k ≠ 18 ∧ k ≠ 19 ∧ k ≠ 20 ∧ k ≠ 21 by omega]

/-- R86: above the sticky field STATUS shows its live bits. -/
theorem getLsbD_statusWord_live (s : State) {k : Nat} (hk : 9 ≤ k) : (statusWord s).getLsbD k =
    (decide (k = 16) && decide (s.cmp.lvl = .recessive) ||
      decide (k = 17) && decide (s.gf.flt = .recessive) || decide (k = 18) && decide (s.cr.crm = .sync) ||
      decide (k = 19) && s.ds.dsAct || decide (k = 20) && decide (s.cc.crcph = .cover) ||
      decide (k = 21) && decide (s.evq ≠ [])) := by
  rw [getLsbD_statusWord, getLsbD_fieldAt_of_outside _ (.inr (by omega)), Bool.false_or]

/-- R96: a bit of DSSTATE, each flag at its position between the three fields. -/
theorem getLsbD_dsstateWord (s : State) (k : Nat) : (dsstateWord s).getLsbD k =
    ((fieldAt s.ds.cnt 0).getLsbD k || decide (k = 3) && decide (s.ds.lv = .recessive) ||
      decide (k = 4) && s.ds.endp || decide (k = 5) && s.cc.stopp || (fieldAt s.cc.crcph.code 6).getLsbD k ||
      (fieldAt s.cc.rxn 8).getLsbD k || decide (k = 12) && s.cr.sofp || decide (k = 13) && s.cr.smp ||
      decide (k = 14) && s.cr.rsy) := by
  simp [dsstateWord, getLsbD_flagAt, level_bit_eq]

/-- R96: the three fields of DSSTATE overlap neither each other nor a flag. -/
theorem dsstateWord_fields (s : State) : (dsstateWord s).extractLsb' 0 3 = s.ds.cnt ∧
    (dsstateWord s).extractLsb' 6 2 = s.cc.crcph.code ∧ (dsstateWord s).extractLsb' 8 4 = s.cc.rxn := by
  refine ⟨extractLsb'_eq_of_getLsbD fun i hi => ?_, extractLsb'_eq_of_getLsbD fun i hi => ?_,
    extractLsb'_eq_of_getLsbD fun i hi => ?_⟩
  all_goals
    simp (disch := omega) only [getLsbD_dsstateWord, getLsbD_fieldAt, getLsbD_fieldAt_of_outside, decide_eq_false,
      Bool.false_and, Bool.or_false, Bool.false_or, Nat.add_sub_cancel_left]

/-- R96: outside its three fields DSSTATE shows its flags. -/
theorem getLsbD_dsstateWord_flags (s : State) {k : Nat} (hk : k = 3 ∨ k = 4 ∨ k = 5 ∨ 12 ≤ k) :
    (dsstateWord s).getLsbD k = (decide (k = 3) && decide (s.ds.lv = .recessive) || decide (k = 4) && s.ds.endp ||
      decide (k = 5) && s.cc.stopp || decide (k = 12) && s.cr.sofp || decide (k = 13) && s.cr.smp ||
      decide (k = 14) && s.cr.rsy) := by
  simp (disch := omega) only [getLsbD_dsstateWord, getLsbD_fieldAt_of_outside, Bool.or_false, Bool.false_or]

/-- R109, R265: the upper half of a time. -/
theorem extractLsb'_time_hi (t : Time) : t.extractLsb' 32 32 = BitVec.ofNat 32 (t.toNat / 2 ^ 32) := by
  rw [← Nat.shiftRight_eq_div_pow]
  rfl

/-- R263: what the four EVT reads return of the record shown. -/
theorem evtReads_of_shownRecord {s : State} {r : Record} (h : shownRecord s.evq = r) :
    Returns .rdEvtHead s r.head ∧ Returns .rdEvtAux s r.aux ∧ Returns .rdEvtTlo s (BitVec.ofNat 32 r.time.toNat) ∧
      Returns .rdEvtThi s (BitVec.ofNat 32 (r.time.toNat / 2 ^ 32)) := by
  subst h
  rw [← extractLsb'_time_hi]
  exact ⟨rfl, rfl, rfl, rfl⟩

/-! ### The obligations on reads -/

/-- Settles O10: a narrow register is the field at bit 0. -/
theorem plainRegistersReadAsStored : Obligations.PlainRegistersReadAsStored := by
  intro s
  simp only [← fieldAt_zero]
  exact ⟨rfl, rfl, rfl, rfl, rfl, rfl, rfl, rfl, rfl, rfl, rfl, rfl, rfl, rfl⟩

/-- Settles O11: CTRL reads as `ctrlWord`. -/
theorem ctrlReadsItsFields : Obligations.CtrlReadsItsFields := by
  intro s
  rw [← ctrlWord_eq]
  rfl

/-- Settles O12: the sticky field, the live bits, and the positions of neither. -/
theorem statusReadsStickyAndLiveBits : Obligations.StatusReadsStickyAndLiveBits := by
  intro s
  have hreserved (k : Nat) (hk : 9 ≤ k ∧ k < 16 ∨ 22 ≤ k) : (statusWord s).getLsbD k = false := by
    rw [getLsbD_statusWord_live s (by omega)]
    simp [show k ≠ 16 ∧ k ≠ 17 ∧ k ≠ 18 ∧ k ≠ 19 ∧ k ≠ 20 ∧ k ≠ 21 by omega]
  refine ⟨statusWord s, rfl, fun k hk => getLsbD_statusWord_sticky s hk, ?_, ?_, ?_, ?_, ?_, ?_, hreserved⟩
  all_goals
    rw [getLsbD_statusWord_live s (by decide)]
    simp

/-- Settles O13: the four EVT reads go by the record shown. -/
theorem eventAndTimeRegistersRead : Obligations.EventAndTimeRegistersRead := by
  intro s
  refine ⟨fun r rest hq => evtReads_of_shownRecord (by rw [hq]; rfl), fun hq => ?_, rfl, rfl, ?_⟩
  · exact evtReads_of_shownRecord (r := { head := 0#32, aux := 0#32, time := 0#64 }) (by rw [hq]; rfl)
  · rw [← extractLsb'_time_hi]
    rfl

/-- Settles O14: the fields and flags of DSSTATE, and zeros above. -/
theorem debugRegistersShowInternalState : Obligations.DebugRegistersShowInternalState := by
  intro s
  rw [← crstateWord_eq, ← fieldAt_zero]
  obtain ⟨hcnt, hcrcph, hrxn⟩ := dsstateWord_fields s
  have hreserved (k : Nat) (hk : 15 ≤ k) : (dsstateWord s).getLsbD k = false := by
    rw [getLsbD_dsstateWord_flags s (by omega)]
    simp [show k ≠ 3 ∧ k ≠ 4 ∧ k ≠ 5 ∧ k ≠ 12 ∧ k ≠ 13 ∧ k ≠ 14 by omega]
  refine ⟨rfl, rfl, dsstateWord s, rfl, hcnt, ?_, ?_, ?_, hcrcph, hrxn, ?_, ?_, ?_, hreserved⟩
  all_goals
    rw [getLsbD_dsstateWord_flags s (by decide)]
    simp

end Sys2Proof.Proofs

/-! ## Register writes, commands and the SAMPLE write -/

namespace Sys2Proof.Proofs

open Sys2Proof.Machine Sys2Proof.Safety Sys2Proof.Laws

/-! ### Refused accesses -/

/-- R86: ACC_ERR is bit 1. -/
theorem refuseAccess_eq (s : State) : refuseAccess s = { s with sticky := s.sticky ||| 0b000000010#9 } := rfl

/-- R86: CMD_ERR is bit 2. -/
theorem setSticky_cmdErr_eq (s : State) : setSticky .cmdErr s = { s with sticky := s.sticky ||| 0b000000100#9 } := rfl

/-- Settles O16, register by register. -/
theorem readOnlyWritesOnlySetAccErr : Obligations.ReadOnlyWritesOnlySetAccErr := by
  intro i s hi
  rw [← refuseAccess_eq]
  cases i with
  | wrId | wrCrc | wrRxcrc | wrEvtHead | wrEvtAux | wrEvtTlo | wrEvtThi | wrEvtCnt | wrTimeLo | wrTimeHi | wrGlitchCnt
  | wrCrstate | wrDsstate | wrIdlecnt => rfl
  | _ => cases hi

/-- Settles O17: each row refuses the read or the write. -/
theorem reservedOffsetsOnlySetAccErr : Obligations.ReservedOffsetsOnlySetAccErr := by
  intro s off v flagged read
  have hwrite : refuseAccess s = flagged := refuseAccess_eq s
  have hread : refuseRead s = read := rfl
  rw [← hwrite, ← hread]
  exact ⟨rfl, rfl, rfl, rfl, rfl, rfl⟩

/-! ### CTRL, STATUS and the configuration -/

theorem writeCtrl_of_enabled (v : Word) {s : State} (hen : s.ctrl.en = true) :
    writeCtrl v s = { s with ctrl := { s.ctrl with en := v.getLsbD 0 } } := by
  rw [writeCtrl, if_pos hen]
  cases v.getLsbD 0 with
  | false => rfl
  | true => rw [if_pos rfl, ← hen]

theorem writeCtrl_stores_modes {v : Word} {s : State} (hen : s.ctrl.en = false) (hv : v.getLsbD 0 = false) :
    writeCtrl v s = { s with ctrl := s.ctrl.withModes v } := by
  simp only [writeCtrl, hen, hv, Bool.false_eq_true, if_false]

theorem writeCtrl_enables {v : Word} {s : State} (hen : s.ctrl.en = false) (hv : v.getLsbD 0 = true)
    (hok : configOk s.cfg = true) :
    writeCtrl v s = enableInit { s with ctrl := { s.ctrl.withModes v with en := true } } := by
  simp [writeCtrl, hen, hv, hok]

theorem writeCtrl_refuses_enable {v : Word} {s : State} (hen : s.ctrl.en = false) (hv : v.getLsbD 0 = true)
    (hok : ¬ configOk s.cfg = true) : writeCtrl v s = setSticky .setupErr { s with ctrl := s.ctrl.withModes v } := by
  simp [writeCtrl, hen, hv, hok]

theorem withModes_of_disabled (v : Word) {c : Ctrl} (hen : c.en = false) : c.withModes v =
    { en := false, single := v.getLsbD 1, inv := v.getLsbD 2, crcm := v.getLsbD 3, levev := v.getLsbD 4 } := by
  rw [Ctrl.withModes, hen]

theorem exec_wrCtrl (v : Word) (s : State) : exec (.wrCtrl v) s = .next (writeCtrl v s) := rfl

/-- Settles O18, by EN, bit 0 of the word, and the enable check. -/
theorem ctrlWriteEnablesAndDisables : Obligations.CtrlWriteEnablesAndDisables := by
  intro s v stored legal
  rw [exec_wrCtrl]
  refine ⟨fun hen => ?_, fun hen hv => ?_, fun hen hv hlegal => ?_, fun hen hv hillegal => ?_⟩
  · rw [writeCtrl_of_enabled v hen]
  · rw [writeCtrl_stores_modes hen hv, withModes_of_disabled v hen]
  · rw [writeCtrl_enables hen hv ((configOk_iff s.cfg).mpr hlegal)]
    rfl
  · rw [writeCtrl_refuses_enable hen hv (mt (configOk_iff s.cfg).mp hillegal), withModes_of_disabled v hen]
    rfl

/-- Settles O19: a bit stays where it is set and its bit of the word is 0. -/
theorem statusWriteOneToClear : Obligations.StatusWriteOneToClear := by
  intro s v
  refine ⟨(clearSticky v s).sticky, rfl, fun k hk => ?_⟩
  simp [hk]

theorem exec_configWrite {i : Instr} (hi : configWrite i = true) (s : State) :
    ∃ f, exec i s = .next (writeConfig f s) := by
  cases i with
  | wrHthr | wrLthr | wrNbp | wrSpo | wrSjw | wrMgw => exact ⟨_, rfl⟩
  | _ => cases hi

theorem configWrite_stores {i : Instr} {f : CfgRegs → CfgRegs} {s : State} {c : CfgRegs}
    (hi : exec i s = .next (writeConfig f s)) (hc : f s.cfg = c) (hen : s.ctrl.en = false) :
    exec i s = .next { s with cfg := c } := by
  rw [hi, writeConfig, if_neg (Bool.eq_false_iff.mp hen), hc]

theorem configWrite_refused {i : Instr} {f : CfgRegs → CfgRegs} {s : State} (hi : exec i s = .next (writeConfig f s))
    (hen : s.ctrl.en = true) : exec i s = .next (refuseAccess s) := by
  rw [hi, writeConfig, if_pos hen]

/-- Settles O20: a configuration write stores while EN = 0 and is refused while EN = 1. -/
theorem configurationWrites : Obligations.ConfigurationWrites := by
  intro s v
  refine ⟨fun hen => ?_, fun i hi hen => ?_, rfl, rfl⟩
  · exact ⟨configWrite_stores rfl rfl hen, configWrite_stores rfl rfl hen, configWrite_stores rfl rfl hen,
      configWrite_stores rfl rfl hen, configWrite_stores rfl rfl hen, configWrite_stores rfl rfl hen⟩
  · obtain ⟨f, hf⟩ := exec_configWrite hi s
    rw [← refuseAccess_eq]
    exact configWrite_refused hf hen

/-! ### Commands -/

/-- R250: the instruction of a command leaves the command's result. -/
theorem exec_toInstr (c : Command) (s : State) : exec c.toInstr s = .next (commandResult c s) := by
  cases c <;> rfl

/-- Settles O21: both sides leave the result of the command the word decodes to. -/
theorem cmdWriteRunsItsCommand : Obligations.CmdWriteRunsItsCommand := by
  intro s v
  have hwr : exec (.wrCmd v) s = .next (commandResult (decodeCommand v) s) := execWrCmd_eq v s
  exact ⟨hwr.trans (exec_toInstr _ s).symm, _, hwr⟩

theorem popRecord_of_empty {s : State} (h : s.evq = []) : popRecord s = s := by
  rw [popRecord, h, List.tail_nil, ← h]

theorem popRecord_of_cons {s : State} {r : Record} {rest : List Record} (h : s.evq = r :: rest) :
    popRecord s = { s with evq := rest } := by
  rw [popRecord, h, List.tail_cons]

/-- Settles O22: each command's result; POP by whether EVQ holds a record. -/
theorem simpleCommands : Obligations.SimpleCommands := by
  intro s
  exact ⟨rfl, fun h => congrArg _ (popRecord_of_empty h), fun _ _ h => congrArg _ (popRecord_of_cons h), rfl, rfl, rfl,
    fun _ => congrArg Host.Outcome.next (setSticky_cmdErr_eq s)⟩

theorem lowBits_succ (w : Word) (n : Nat) : lowBits w (n + 1) = w.getLsbD n :: lowBits w n := by
  simp [lowBits, List.range_succ_eq_map, Nat.sub_sub, Nat.add_comm 1]

/-- R255: the direct feed folds the shift over the low bits, most significant first. -/
theorem crcFeed_eq_foldl (w : Word) (n : Nat) (c : BitVec 15) : crcFeed w n c = (lowBits w n).foldl crcStep c := by
  induction n generalizing c with
  | zero => rfl
  | succ n ih => rw [crcFeed, ih, lowBits_succ, List.foldl_cons]

/-- Settles O23, by the fold that `crcFeed` is. -/
theorem crcFeedShiftsTheLowBits : Obligations.CrcFeedShiftsTheLowBits := by
  intro s nm1
  rw [← crcFeed_eq_foldl]
  rfl

/-- Settles O24: the command's condition holds or not. -/
theorem crcStopNeedsACoveredFrame : Obligations.CrcStopNeedsACoveredFrame := by
  intro s
  have hexec : exec .cmdCrcStop s = .next (crcStop s) := exec_toInstr .crcStop s
  rw [hexec, crcStop]
  exact ⟨fun h => by rw [if_pos h], fun h => by rw [if_neg h, setSticky_cmdErr_eq]⟩

/-- Settles O25: by the mode. -/
theorem releaseReturnsToHunt : Obligations.ReleaseReturnsToHunt := by
  intro s
  have hexec : exec .cmdRelease s = .next (release s) := exec_toInstr .release s
  rw [hexec, release]
  exact ⟨fun h => by rw [h], fun h => by rw [h]⟩

/-! ### The SAMPLE write -/

theorem exec_wrSample_of_disabled (v : Word) {s : State} (hen : s.ctrl.en = false) :
    exec (.wrSample v) s = .next (refuseAccess s) :=
  congrArg _ (if_neg (Bool.eq_false_iff.mp hen))

theorem exec_wrSample_of_enabled (v : Word) {s : State} (hen : s.ctrl.en = true) :
    exec (.wrSample v) s = .next (tick v s) :=
  congrArg _ (if_pos hen)

/-- Settles O28: no stage touches TIME, so the last one counts from the TIME before the tick. -/
theorem sampleWriteIsOneTick : Obligations.SampleWriteIsOneTick := by
  intro s v
  refine ⟨fun hen => exec_wrSample_of_disabled v hen, fun hen => ?_⟩
  intro a b c
  have htime : c.time = s.time :=
    ((comparatorStep_frame s.time v s).trans ((glitchDetect_frame _ _ a).trans (glitchFilter_frame _ _ b))).time
  rw [exec_wrSample_of_enabled v hen, ← htime]
  rfl

/-- R35, R140: glitch detection is the only stage that counts, by at most one. -/
theorem tick_glitchCnt (v : Word) (s : State) : (tick v s).glitchCnt = s.glitchCnt ∨
    (tick v s).glitchCnt = sat 32 (s.glitchCnt.toNat + 1) := by
  have hcompared : (compared v s).glitchCnt = s.glitchCnt := comparatorStep_glitchCnt _ _ _
  have hdetect := glitchDetect_glitchCnt s.time (compared v s).cmp.lvl (compared v s)
  rw [hcompared] at hdetect
  rwa [tick_eq, advanceTime_glitchCnt, glitchFilter_glitchCnt]

theorem toNat_sat (n x : Nat) : (sat n x).toNat = min x (2 ^ n - 1) := by
  have hpow := Nat.two_pow_pos n
  rw [sat, BitVec.toNat_ofNat, Nat.mod_eq_of_lt (by omega)]

/-- Settles O29: the write is a tick, which keeps the stages' frame. -/
theorem tickFrame : Obligations.TickFrame := by
  intro s t v hen hex
  rw [exec_wrSample_of_enabled v hen] at hex
  cases hex
  have hf := tick_frame v s
  have hcnt := (tick_glitchCnt v s).imp_right fun h => (congrArg BitVec.toNat h).trans (toNat_sat 32 _)
  exact ⟨hf.params, hf.ctrl, hf.cfg, hf.crcdin, hf.irqen, hf.host, hf.time, hcnt, hf.stickyGrows, hf.stickyLow⟩

end Sys2Proof.Proofs

/-! ## The event queue and the interrupt -/

namespace Sys2Proof.Proofs

open Sys2Proof.Machine Sys2Proof.Safety Sys2Proof.Laws

/-! ### The records of a tick -/

/-- The CRC records of a bit are at most one record of a comparison. -/
theorem crcRecords_sublist (n : Time) (r : Option (BitVec 28 × Word)) :
    ∃ (data : BitVec 28) (aux : Word), (crcRecords n r).Sublist [mkRecord .crc data aux n] := by
  cases r with
  | none => exact ⟨0#28, 0#32, List.nil_sublist _⟩
  | some p => exact ⟨p.1, p.2, List.Sublist.refl _⟩

/-- Comparator and glitch detection keep what every stage keeps. -/
theorem detected_frame (v : Word) (s : State) : StageFrame s (detected v s) :=
  (comparatorStep_frame s.time v s).trans (glitchDetect_frame _ _ _)

/-- R268, R312: a tick appends at most these four records, in this order, each with the time of its stage. -/
theorem tick_appends (v : Word) (s : State) :
    ∃ (level glitch bit crc : BitVec 28) (glitchAux bitAux crcAux : Word),
      Appends [mkRecord .level level 0#32 s.time, mkRecord .glitch glitch glitchAux s.gf.runstart,
        mkRecord .bit bit bitAux (s.time - BitVec.ofNat 64 (s.window - 1)),
        mkRecord .crc crc crcAux (s.time - BitVec.ofNat 64 (s.window - 1))] s (tick v s) := by
  have hgf : (compared v s).gf = s.gf := comparatorStep_gf s.time v s
  have hwindow : (detected v s).window = s.window := by
    rw [State.window, (detected_frame v s).cfg, ← State.window]
  obtain ⟨level, hlevel⟩ := comparatorStep_appends s.time v s
  obtain ⟨glitch, glitchAux, hglitch⟩ := glitchDetect_appends s.time (compared v s).cmp.lvl (compared v s)
  obtain ⟨bit, bitAux, r, hbit⟩ := glitchFilter_appends s.time (compared v s).cmp.lvl (detected v s)
  rw [hgf] at hglitch
  rw [hwindow] at hbit
  obtain ⟨crc, crcAux, hcrc⟩ := crcRecords_sublist (s.time - BitVec.ofNat 64 (s.window - 1)) r
  exact ⟨level, glitch, bit, crc, glitchAux, bitAux, crcAux,
    hlevel.trans (hglitch.trans (hbit.mono (hcrc.cons_cons _)))⟩

/-- Settles O30: the appended records are a sublist of the tick's four, whose TYPE codes are 1 to 4. -/
theorem tickRecordsInOrder : Obligations.TickRecordsInOrder := by
  intro s t v hen hex
  rw [exec_wrSample_of_enabled v hen] at hex
  cases hex
  obtain ⟨level, glitch, bit, crc, glitchAux, bitAux, crcAux, new, hevq, hsub⟩ := tick_appends v s
  refine ⟨new, hevq, List.Pairwise.sublist hsub (by simp [RecordType.code]), fun r hr => ?_⟩
  have hmem := hsub.subset hr
  simp only [List.mem_cons, List.not_mem_nil, or_false] at hmem
  rcases hmem with rfl | rfl | rfl | rfl
  · exact .inl ⟨mkRecord_typeCode _ _ _ _, rfl⟩
  · exact .inr (.inl ⟨mkRecord_typeCode _ _ _ _, rfl⟩)
  · exact .inr (.inr ⟨.inl (mkRecord_typeCode _ _ _ _), rfl⟩)
  · exact .inr (.inr ⟨.inr (mkRecord_typeCode _ _ _ _), rfl⟩)

/-! ### First in, first out -/

@[simp] theorem writeCtrl_evq (v : Word) (s : State) : (writeCtrl v s).evq = s.evq := by
  have he := writeCtrl_effect v s
  generalize writeCtrl v s = t at he
  cases he <;> rfl

/-- R252, R253, R259: of the commands, only POP, FLUSH and RESET take records out, and none adds one. -/
theorem commandResult_evq (c : Command) (s : State) : (commandResult c s).evq = s.evq ∨
    (c = .pop ∧ (commandResult c s).evq = s.evq.tail) ∨
    ((c = .flush ∨ c = .reset) ∧ (commandResult c s).evq = []) := by
  cases c with
  | nop | crcClear | crcFeed | glitchClr | reserved => exact .inl rfl
  | pop => exact .inr (.inl ⟨rfl, rfl⟩)
  | flush => exact .inr (.inr ⟨.inl rfl, rfl⟩)
  | reset => exact .inr (.inr ⟨.inr rfl, rfl⟩)
  | crcStop =>
    simp only [commandResult, crcStop]
    split <;> exact .inl rfl
  | release =>
    simp only [commandResult, release]
    split <;> exact .inl rfl

/-- Settles O58: by the operation's effect; a tick extends EVQ at its tail (`tick_appends`). -/
theorem queueIsFirstInFirstOut : Obligations.QueueIsFirstInFirstOut := by
  intro i s t hex
  cases exec_effect hex with
  | read | refuse | refuseRead | clear | configure | crcdin | irqen => exact .inl rfl
  | control v => exact .inl (writeCtrl_evq v s)
  | tick v hi hen =>
    obtain ⟨_, _, _, _, _, _, _, new, hevq, -⟩ := tick_appends v s
    exact .inr (.inr (.inr ⟨hi ▸ rfl, hen, new, hevq.symm⟩))
  | command c hi =>
    rcases commandResult_evq c s with h | ⟨rfl, h⟩ | ⟨hc, h⟩
    · exact .inl h
    · exact .inr (.inl ⟨hi, h⟩)
    · exact .inr (.inr (.inl ⟨hc.imp (hi.trans <| congrArg some ·) (hi.trans <| congrArg some ·), h⟩))

/-! ### One record -/

/-- R86: OVF is bit 3. -/
theorem setSticky_ovf_eq (s : State) : setSticky .ovf s = { s with sticky := s.sticky ||| 0b000001000#9 } := rfl

/-- Settles O26: the record and the BIT flags as numbers. -/
theorem emitAppendsOrSetsOvf : Obligations.EmitAppendsOrSetsOvf := by
  refine ⟨fun s ty data aux t => ?_, fun f => ?_⟩
  · rw [emit, mkRecord_eq, setSticky_ovf_eq]
  · rw [← bitData_toNat, BitVec.ofNat_toNat, BitVec.setWidth_eq]

/-! ### The interrupt -/

/-- Two words have a bit in common exactly when their conjunction is not 0. -/
theorem and_ne_zero_iff {n : Nat} (x y : BitVec n) :
    x &&& y ≠ 0#n ↔ ∃ k, k < n ∧ x.getLsbD k = true ∧ y.getLsbD k = true := by
  constructor
  · intro hne
    by_contra! hnone
    refine hne (BitVec.eq_of_getLsbD_eq fun k hk => ?_)
    simpa using hnone k hk
  · rintro ⟨k, -, hx, hy⟩ hzero
    have hk : (x &&& y).getLsbD k = true := by rw [BitVec.getLsbD_and, hx, hy, Bool.and_self]
    simp [hzero] at hk

/-- Settles O27: a common bit of the sticky bits and the low nine of IRQEN, or EVNE with a record queued. -/
theorem irqFollowsEnabledSources : Obligations.IrqFollowsEnabledSources := by
  intro s
  have hsource (k : Nat) (hk : k < 9) : (s.irqen.extractLsb' 0 9).getLsbD k = s.irqen.getLsbD k := by
    rw [BitVec.getLsbD_extractLsb', Nat.zero_add, decide_eq_true hk, Bool.true_and]
  rw [State.irq, Bool.or_eq_true, Bool.and_eq_true, decide_eq_true_eq, decide_eq_true_eq, and_ne_zero_iff,
    List.length_pos_iff]
  refine or_congr (exists_congr fun k => and_congr_right fun hk => ?_) Iff.rfl
  rw [hsource k hk]

end Sys2Proof.Proofs

/-! ## Reset, and the pipeline while EN = 0 -/

namespace Sys2Proof.Proofs

open Sys2Proof.Machine Sys2Proof.Safety Sys2Proof.Laws

/-! ### The pipeline while EN = 0 -/

/-- Only RESET, among the commands, changes the comparator or the glitch filter. -/
theorem commandResult_keeps_frontend {c : Command} (hc : c ≠ .reset) (s : State) :
    (commandResult c s).cmp = s.cmp ∧ (commandResult c s).gf = s.gf := by
  cases c with
  | nop | pop | flush | crcClear | crcFeed | glitchClr | reserved => exact ⟨rfl, rfl⟩
  | crcStop =>
    simp only [commandResult, crcStop]
    split <;> exact ⟨rfl, rfl⟩
  | release =>
    simp only [commandResult, release]
    split <;> exact ⟨rfl, rfl⟩
  | reset => exact absurd rfl hc

/-- Of the commands only RESET, RELEASE and CRC_STOP change clock recovery, the destuffer or the CRC control. -/
theorem commandResult_keeps_recovery {c : Command} (hc : c ≠ .reset) (s : State) :
    ((commandResult c s).cr = s.cr ∧ (commandResult c s).ds = s.ds ∧ (commandResult c s).cc = s.cc) ∨
      c = .release ∨ c = .crcStop := by
  cases c with
  | nop | pop | flush | crcClear | crcFeed | glitchClr | reserved => exact .inl ⟨rfl, rfl, rfl⟩
  | crcStop => exact .inr (.inr rfl)
  | release => exact .inr (.inl rfl)
  | reset => exact absurd rfl hc

/-- Settles O59: from EN = 0 to EN = 0 there is no tick and no accepted enable; what is left is the commands. -/
theorem disabledPipelineIsFrozen : Obligations.DisabledPipelineIsFrozen := by
  intro i s t hen hex hdis hreset
  cases exec_effect hex with
  | read | refuse | refuseRead | clear | configure | crcdin | irqen => exact ⟨rfl, rfl, rfl, .inl ⟨rfl, rfl, rfl⟩⟩
  | control v =>
    have he := writeCtrl_effect v s
    generalize writeCtrl v s = t at he hdis
    cases he with
    | refuseEnable | setModes => exact ⟨rfl, rfl, rfl, .inl ⟨rfl, rfl, rfl⟩⟩
    | enable => cases hdis
    | stayEnabled hon | disable hon => simp [hen] at hon
  | tick _ _ hon => simp [hen] at hon
  | command c hc =>
    have hne : c ≠ .reset := fun he => hreset (he ▸ hc)
    obtain ⟨hcmp, hgf⟩ := commandResult_keeps_frontend hne s
    obtain ⟨-, -, htime⟩ := commandResult_frame hne s
    refine ⟨hcmp, hgf, htime, (commandResult_keeps_recovery hne s).imp_right ?_⟩
    exact Or.imp (fun he => he ▸ hc) (fun he => he ▸ hc)

/-! ### Reset -/

/-- R340: after reset no interrupt source is set. -/
theorem resetWith_irq (p : Config.Params) (h : HostPort) : (State.resetWith p h).irq = false := by
  change State.reset.irq = false
  decide

/-- R86, R340: after reset STATUS shows both levels recessive and no other bit. -/
theorem statusWord_resetWith (p : Config.Params) (h : HostPort) :
    statusWord (State.resetWith p h) = 0x00030000#32 := by
  change statusWord State.reset = 0x00030000#32
  decide

/-- R96, R340: after reset DSSTATE shows its last bit recessive and no other bit. -/
theorem dsstateWord_resetWith (p : Config.Params) (h : HostPort) :
    dsstateWord (State.resetWith p h) = 0x00000008#32 := by
  change dsstateWord State.reset = 0x00000008#32
  decide

/-- R340: after reset every defined register but ID, STATUS and DSSTATE reads 0. -/
theorem resetWith_returns_zero (p : Config.Params) (h : HostPort) {i : Instr} (hi : definedRead i = true)
    (hid : i ≠ .rdId) (hstatus : i ≠ .rdStatus) (hds : i ≠ .rdDsstate) :
    Returns i (State.resetWith p h) 0#32 := by
  cases i with
  | rdId => exact absurd rfl hid
  | rdStatus => exact absurd rfl hstatus
  | rdDsstate => exact absurd rfl hds
  | rdCtrl => exact ctrlReadsItsFields (State.resetWith p h)
  | rdCrstate =>
    obtain ⟨hcrstate, -⟩ := debugRegistersShowInternalState (State.resetWith p h)
    exact hcrstate
  | rdEvtThi =>
    obtain ⟨-, hempty, -⟩ := eventAndTimeRegistersRead (State.resetWith p h)
    obtain ⟨-, -, -, hthi⟩ := hempty rfl
    exact hthi
  | rdTimeHi =>
    obtain ⟨-, -, -, -, htimeHi⟩ := eventAndTimeRegistersRead (State.resetWith p h)
    change Returns _ _ (BitVec.ofNat 32 (0 / 2 ^ 32)) at htimeHi
    rwa [Nat.zero_div] at htimeHi
  | rdHthr | rdLthr | rdNbp | rdSpo | rdSjw | rdMgw | rdCrc | rdRxcrc | rdCrcdin | rdCmd | rdEvtHead | rdEvtAux
  | rdEvtTlo | rdEvtCnt | rdTimeLo | rdGlitchCnt | rdIrqen | rdSample | rdIdlecnt => rfl
  | _ => cases hi

/-- Settles O9: both resets answer `State.resetWith`, and the reads go by its words. -/
theorem resetLeavesTheListedValues : Obligations.ResetLeavesTheListedValues := by
  intro s
  refine ⟨rfl, fun rest hp => step_of_reset (nextRequest_of_hardReset hp), resetWith_irq s.params, fun h i hi => ?_⟩
  split_ifs with hid hstatus hds
  · exact hid ▸ rfl
  · rw [hstatus, ← statusWord_resetWith s.params h]
    rfl
  · rw [hds, ← dsstateWord_resetWith s.params h]
    rfl
  · exact resetWith_returns_zero s.params h hi hid hstatus hds

end Sys2Proof.Proofs
